-- ==== Sys2Proof/Word.lean ====
section
/-! DEFINITION. The words the part exchanges on its ports: bytes, tags and the 32-bit counts. Everything the
manual treats as a plain number (phases, times, counts, indexes) is a `Nat` or a `Fin`. -/

namespace Sys2Proof

/-- One byte of a frame, a body or a record (R128, R159). -/
abbrev Byte := BitVec 8

/-- The 4-bit tag of a request and the 4 reserved bits beside it (Table 9-1). -/
abbrev Tag := BitVec 4

/-- A 32-bit count that wraps: the cycle number (R32) and the insertion sequence (R47). -/
abbrev Count32 := BitVec 32

end Sys2Proof
end

