-- ==== Sys2Proof/Config.lean ====
section
/-! DEFINITION. What the part fixes once and for all, and the values the manual leaves open. The open values are
constants without a body: nothing can be proved of them, so a claim holds whatever they are. -/

namespace Sys2Proof

/-- The longest genuine interval, µs (R8). -/
def Config.maxInterval : Nat := 8388607

/-- The no-mark limit of ACQUIRING, µs (R11). -/
def Config.noMarkLimit : Nat := 8388608

/-- The number of phase counts in a cycle (00_scope, Phase and cycles). -/
def Config.phaseCounts : Nat := 4096

/-- The last phase count of a cycle. -/
def Config.lastPhase : Nat := 4095

/-- The number of records an event queue holds, its LOST record included (R149). -/
def Config.queueDepth : Nat := 32

/-- The part code in the reply to OPEN_SESSION (R161). -/
def Config.partCode : Nat := 0x4C16

/-- The revision in the reply to OPEN_SESSION (R161). -/
def Config.revision : Nat := 1

/-- The quota of every port after reset (R127). -/
def Config.resetQuota : Nat := 32

/-- FREE VALUE. Where the manual says that events, or records to one queue, come "in either order" and sets none
(R150; the same-tick orders of the other chapters), the order is drawn from here. The argument is the number of the
draw (`Machine.State.draws`). Log entry 4. -/
opaque Config.freePick : Nat → Nat

/-- FREE VALUE. The time a Table Engine job takes is not fixed within 1 to 200 ticks (R57); it is drawn from here, by
the number of the draw made when the job was taken. Log entry 5. -/
opaque Config.freeJobTicks : Nat → Nat

end Sys2Proof
end

