-- ==== Sys2Proof/Syntax.lean ====
section
/-! DEFINITION. The commands of the part: one constructor for every row of spec/opcode_table.json.

Every command carries first the TICK at which it is taken (log entry 1). A request carries the port on whose
transaction it came, the tag and the four reserved bits of its first byte, and its body's bytes as they were shifted
in, so that every admission check of R139 and R160 can be made on them. -/

namespace Sys2Proof

/-- The four SPI target ports (00_scope, Identifiers). -/
inductive Port where
  | A | B | C | D
  deriving DecidableEq, Repr

/-- The level of an input pin. -/
inductive Level where
  | low | high
  deriving DecidableEq, Repr

/-- The two channels of the Mark Conditioner (1.1). -/
inductive Channel where
  | mark | index
  deriving DecidableEq, Repr

/-- An output line, L0 to L15. -/
abbrev Line := Fin 16

/-- A slot of the cam table, the entry's id. -/
abbrev EntryId := Fin 128

/-- The commands, in the order of the table. -/
inductive Instr where
  /-- RESET (R142): power-on or RESET; the operands are the levels on the MARK, INDEX and HOLD pins as it ends. -/
  | reset (t : Nat) (mark index hold : Level)
  /-- TRANSACTION_START (R128): the port's select is asserted. -/
  | transactionStart (t : Nat) (p : Port)
  /-- FRAME_ERROR (R131): select is released after these complete bytes, which form no valid frame. -/
  | frameError (t : Nat) (p : Port) (bytes : List Byte)
  /-- NOP (R138): select is released after a valid frame with request code 0. -/
  | nop (t : Nat) (p : Port)
  /-- UNKNOWN_REQUEST_CODE (R139): a valid frame whose code is none of Table 9-3. -/
  | unknownRequestCode (t : Nat) (p : Port) (tag rsv : Tag) (code : Byte) (body : List Byte)
  /-- OPEN_SESSION (R114). -/
  | openSession (t : Nat) (p : Port) (tag rsv : Tag) (body : List Byte)
  /-- CLOSE_SESSION (R118). -/
  | closeSession (t : Nat) (p : Port) (tag rsv : Tag) (body : List Byte)
  /-- READ_SESSION (R123). -/
  | readSession (t : Nat) (p : Port) (tag rsv : Tag) (body : List Byte)
  /-- REQUEST_GRANT (R124). -/
  | requestGrant (t : Nat) (p : Port) (tag rsv : Tag) (body : List Byte)
  /-- RELEASE_GRANT (R125). -/
  | releaseGrant (t : Nat) (p : Port) (tag rsv : Tag) (body : List Byte)
  /-- SET_QUOTA (R126). -/
  | setQuota (t : Nat) (p : Port) (tag rsv : Tag) (body : List Byte)
  /-- SET_TRACKER (R18). -/
  | setTracker (t : Nat) (p : Port) (tag rsv : Tag) (body : List Byte)
  /-- START_TRACKER (R19). -/
  | startTracker (t : Nat) (p : Port) (tag rsv : Tag) (body : List Byte)
  /-- STOP_TRACKER (R20). -/
  | stopTracker (t : Nat) (p : Port) (tag rsv : Tag) (body : List Byte)
  /-- READ_TRACKER (R42). -/
  | readTracker (t : Nat) (p : Port) (tag rsv : Tag) (body : List Byte)
  /-- READ_HISTORY (R15). -/
  | readHistory (t : Nat) (p : Port) (tag rsv : Tag) (body : List Byte)
  /-- CLAIM_LINE (R96). -/
  | claimLine (t : Nat) (p : Port) (tag rsv : Tag) (body : List Byte)
  /-- RELEASE_LINE (R98, R99). -/
  | releaseLine (t : Nat) (p : Port) (tag rsv : Tag) (body : List Byte)
  /-- SET_LINE_MODE (R102). -/
  | setLineMode (t : Nat) (p : Port) (tag rsv : Tag) (body : List Byte)
  /-- READ_LINES (R110). -/
  | readLines (t : Nat) (p : Port) (tag rsv : Tag) (body : List Byte)
  /-- INSERT_ENTRY (R45, R59). -/
  | insertEntry (t : Nat) (p : Port) (tag rsv : Tag) (body : List Byte)
  /-- DELETE_ENTRY (R61). -/
  | deleteEntry (t : Nat) (p : Port) (tag rsv : Tag) (body : List Byte)
  /-- CLEAR_LINE_ENTRIES (R62). -/
  | clearLineEntries (t : Nat) (p : Port) (tag rsv : Tag) (body : List Byte)
  /-- READ_ENTRY (R66). -/
  | readEntry (t : Nat) (p : Port) (tag rsv : Tag) (body : List Byte)
  /-- LIST_ENTRIES (R67). -/
  | listEntries (t : Nat) (p : Port) (tag rsv : Tag) (body : List Byte)
  /-- READ_EVENTS (R151). -/
  | readEvents (t : Nat) (p : Port) (tag rsv : Tag) (body : List Byte)
  /-- SET_EVENT_MASK (R147). -/
  | setEventMask (t : Nat) (p : Port) (tag rsv : Tag) (body : List Byte)
  /-- SET_ATTENTION (R156). -/
  | setAttention (t : Nat) (p : Port) (tag rsv : Tag) (body : List Byte)
  /-- ACK_ATTENTION (R157). -/
  | ackAttention (t : Nat) (p : Port) (tag rsv : Tag) (body : List Byte)
  /-- MARK (R25): the MARK channel recognises a transition of the selected direction. -/
  | mark (t : Nat)
  /-- INDEX_EDGE (R34): the INDEX channel recognises a transition of the selected direction. -/
  | indexEdge (t : Nat)
  /-- UNSELECTED_TRANSITION (R3): a channel recognises a transition it does not deliver. -/
  | unselectedTransition (t : Nat) (ch : Channel)
  /-- NO_MARK_LIMIT (R11). -/
  | noMarkLimit (t : Nat)
  /-- LATE_TIMEOUT (R26, R27). -/
  | lateTimeout (t : Nat)
  /-- PHASE_RISE (R30): the per-tick rise of the phase count. -/
  | phaseRise (t : Nat)
  /-- PULSE_TIMER_EXPIRY (R89): the pulse timer of a line expires. -/
  | pulseTimerExpiry (t : Nat) (l : Line)
  /-- HOLD_ASSERTION (R106): the HOLD pin is sampled low after high. -/
  | holdAssertion (t : Nat)
  /-- HOLD_DEASSERTION (R107): the HOLD pin is sampled high after low. -/
  | holdDeassertion (t : Nat)
  /-- SILENCE_EXPIRY (R117): the silence timer of a port expires. -/
  | silenceExpiry (t : Nat) (p : Port)
  /-- INSERTION_COMPLETES (R60). -/
  | insertionCompletes (t : Nat)
  /-- ENTRY_DELETION_COMPLETES (R61). -/
  | entryDeletionCompletes (t : Nat)
  /-- LINE_CLEAR_COMPLETES (R62). -/
  | lineClearCompletes (t : Nat)
  /-- RELEASE_DELETION_COMPLETES (R63). -/
  | releaseDeletionCompletes (t : Nat)
  /-- TEARDOWN_SWEEP_COMPLETES (R64). -/
  | teardownSweepCompletes (t : Nat)
  /-- SPENT_REMOVAL_COMPLETES (R65). -/
  | spentRemovalCompletes (t : Nat)
  /-- CONDITIONER_HOLD_BEGINS (R1): the sample of a channel, with its level. -/
  | conditionerHoldBegins (t : Nat) (ch : Channel) (sample : Level)
  /-- CONDITIONER_HOLD_ABANDONED (R2). -/
  | conditionerHoldAbandoned (t : Nat) (ch : Channel)
  deriving DecidableEq, Repr

end Sys2Proof
end

