-- ==== Sys2Proof/Decode.lean ====
section
/-! DEFINITION. From the bytes of a transaction to a command, and back: the byte order and CRC-8 of R159, the frame
checks of R129 and R130, the request codes of Table 9-3 (R160), and an encoder written from the same tables.

The rows of spec/opcode_table.json give no bits, so `decodeTableWord` reads no command from a table word. -/

namespace Sys2Proof

/-- The low `k` bytes of a number, least significant first (R159). -/
def leBytes : (k : Nat) → (n : Nat) → List Byte
  | 0, _ => []
  | k + 1, n => BitVec.ofNat 8 n :: leBytes k (n / 256)

/-- The number a little-endian field holds (R159). -/
def leValue : List Byte → Nat
  | [] => 0
  | b :: bs => b.toNat + 256 * leValue bs

/-- One of the eight shifts of R159 step 3. -/
def crcShift (r : Byte) : Byte :=
  if r.msb then (r <<< 1) ^^^ 0x07#8 else r <<< 1

/-- A byte combined into the CRC register and shifted through it (R159 steps 2 and 3). -/
def crcByte (r b : Byte) : Byte :=
  crcShift (crcShift (crcShift (crcShift (crcShift (crcShift (crcShift (crcShift (r ^^^ b))))))))

/-- The CRC-8 of the frames (R159). -/
def crc8 (bytes : List Byte) : Byte := bytes.foldl crcByte 0

/-- Bits 0–3 of the first byte of a frame: the tag (Table 9-1). -/
def frameTag (b : Byte) : Tag := b.extractLsb' 0 4

/-- Bits 4–7 of the first byte of a frame: reserved (Table 9-1). -/
def frameReserved (b : Byte) : Tag := b.extractLsb' 4 4

/-- The byte at an offset of a frame; frames are read at offsets they have. -/
def byteAt (bytes : List Byte) (k : Nat) : Byte := bytes.getD k 0

/-- The received tag of a transaction that is a frame error: the tag field of its first byte, or 0 when no complete
byte was received (R129, R131). -/
def receivedTag : List Byte → Tag
  | [] => 0
  | b :: _ => frameTag b

/-- The checks of R130 on the bytes of a transaction: full, body length at most 59, CRC of head and body right. -/
def frameValid (bytes : List Byte) : Bool :=
  let len := (byteAt bytes 2).toNat
  decide (64 ≤ bytes.length) && decide (len ≤ 59) &&
    decide (crc8 (bytes.take (3 + len)) = byteAt bytes (3 + len))

/-- The command of a valid frame by its request code, Table 9-3; any other code is unknown (R139 step 1). -/
def decodeRequest (t : Nat) (p : Port) (tag rsv : Tag) (code : Byte) (body : List Byte) : Instr :=
  match code.toNat with
  | 0x00 => .nop t p
  | 0x01 => .openSession t p tag rsv body
  | 0x02 => .closeSession t p tag rsv body
  | 0x03 => .readSession t p tag rsv body
  | 0x04 => .requestGrant t p tag rsv body
  | 0x05 => .releaseGrant t p tag rsv body
  | 0x06 => .setQuota t p tag rsv body
  | 0x10 => .setTracker t p tag rsv body
  | 0x11 => .startTracker t p tag rsv body
  | 0x12 => .stopTracker t p tag rsv body
  | 0x13 => .readTracker t p tag rsv body
  | 0x14 => .readHistory t p tag rsv body
  | 0x20 => .claimLine t p tag rsv body
  | 0x21 => .releaseLine t p tag rsv body
  | 0x22 => .setLineMode t p tag rsv body
  | 0x23 => .readLines t p tag rsv body
  | 0x30 => .insertEntry t p tag rsv body
  | 0x31 => .deleteEntry t p tag rsv body
  | 0x32 => .clearLineEntries t p tag rsv body
  | 0x33 => .readEntry t p tag rsv body
  | 0x34 => .listEntries t p tag rsv body
  | 0x40 => .readEvents t p tag rsv body
  | 0x41 => .setEventMask t p tag rsv body
  | 0x42 => .setAttention t p tag rsv body
  | 0x43 => .ackAttention t p tag rsv body
  | _ => .unknownRequestCode t p tag rsv code body

/-- The complete bytes that bits shifted in make up, most significant bit first; bits that make up no complete byte are
ignored (R128, R129). -/
def bytesOfBits : List Bool → List Byte
  | b7 :: b6 :: b5 :: b4 :: b3 :: b2 :: b1 :: b0 :: rest =>
    BitVec.ofNat 8 (128 * b7.toNat + 64 * b6.toNat + 32 * b5.toNat + 16 * b4.toNat + 8 * b3.toNat + 4 * b2.toNat +
      2 * b1.toNat + b0.toNat) :: bytesOfBits rest
  | _ => []

/-- The command that the end of a transaction at tick `t` on port `p` is, from its complete bytes (R129, R130). Bytes
beyond the 64th are ignored. -/
def decodeTransaction (t : Nat) (p : Port) (bytes : List Byte) : Instr :=
  if frameValid bytes then
    decodeRequest t p (frameTag (byteAt bytes 0)) (frameReserved (byteAt bytes 0)) (byteAt bytes 1)
      ((bytes.drop 3).take (byteAt bytes 2).toNat)
  else .frameError t p (bytes.take 64)

/-- Bytes followed by zero bytes up to the 64th (Tables 9-1 and 9-6). -/
def padded (bytes : List Byte) : List Byte := bytes ++ List.replicate (64 - bytes.length) 0

/-- The first byte of a frame (Table 9-1). -/
def firstByte (tag rsv : Tag) : Byte := rsv ++ tag

/-- The request frame with these fields, zero padded (Table 9-1). -/
def encodeFrame (tag rsv : Tag) (code : Byte) (body : List Byte) : List Byte :=
  let covered := firstByte tag rsv :: code :: BitVec.ofNat 8 body.length :: body
  padded (covered ++ [crc8 covered])

/-- The bytes of the transaction that ends with the command, for the commands that end one; a NOP is sent as zeros,
since none of its other fields is examined (R138). -/
def encodeTransaction : Instr → Option (List Byte)
  | .frameError _ _ bytes => some bytes
  | .nop _ _ => some (encodeFrame 0 0 0x00 [])
  | .unknownRequestCode _ _ tag rsv code body => some (encodeFrame tag rsv code body)
  | .openSession _ _ tag rsv body => some (encodeFrame tag rsv 0x01 body)
  | .closeSession _ _ tag rsv body => some (encodeFrame tag rsv 0x02 body)
  | .readSession _ _ tag rsv body => some (encodeFrame tag rsv 0x03 body)
  | .requestGrant _ _ tag rsv body => some (encodeFrame tag rsv 0x04 body)
  | .releaseGrant _ _ tag rsv body => some (encodeFrame tag rsv 0x05 body)
  | .setQuota _ _ tag rsv body => some (encodeFrame tag rsv 0x06 body)
  | .setTracker _ _ tag rsv body => some (encodeFrame tag rsv 0x10 body)
  | .startTracker _ _ tag rsv body => some (encodeFrame tag rsv 0x11 body)
  | .stopTracker _ _ tag rsv body => some (encodeFrame tag rsv 0x12 body)
  | .readTracker _ _ tag rsv body => some (encodeFrame tag rsv 0x13 body)
  | .readHistory _ _ tag rsv body => some (encodeFrame tag rsv 0x14 body)
  | .claimLine _ _ tag rsv body => some (encodeFrame tag rsv 0x20 body)
  | .releaseLine _ _ tag rsv body => some (encodeFrame tag rsv 0x21 body)
  | .setLineMode _ _ tag rsv body => some (encodeFrame tag rsv 0x22 body)
  | .readLines _ _ tag rsv body => some (encodeFrame tag rsv 0x23 body)
  | .insertEntry _ _ tag rsv body => some (encodeFrame tag rsv 0x30 body)
  | .deleteEntry _ _ tag rsv body => some (encodeFrame tag rsv 0x31 body)
  | .clearLineEntries _ _ tag rsv body => some (encodeFrame tag rsv 0x32 body)
  | .readEntry _ _ tag rsv body => some (encodeFrame tag rsv 0x33 body)
  | .listEntries _ _ tag rsv body => some (encodeFrame tag rsv 0x34 body)
  | .readEvents _ _ tag rsv body => some (encodeFrame tag rsv 0x40 body)
  | .setEventMask _ _ tag rsv body => some (encodeFrame tag rsv 0x41 body)
  | .setAttention _ _ tag rsv body => some (encodeFrame tag rsv 0x42 body)
  | .ackAttention _ _ tag rsv body => some (encodeFrame tag rsv 0x43 body)
  | .reset .. | .transactionStart .. | .mark .. | .indexEdge .. | .unselectedTransition .. | .noMarkLimit ..
  | .lateTimeout .. | .phaseRise .. | .pulseTimerExpiry .. | .holdAssertion .. | .holdDeassertion ..
  | .silenceExpiry .. | .insertionCompletes .. | .entryDeletionCompletes .. | .lineClearCompletes ..
  | .releaseDeletionCompletes .. | .teardownSweepCompletes .. | .spentRemovalCompletes ..
  | .conditionerHoldBegins .. | .conditionerHoldAbandoned .. => none

/-- The command a word of the opcode table spells. No row of the table gives bits, so no word spells one. -/
def decodeTableWord (_nbits _w : Nat) : Option Instr := none

end Sys2Proof
end

