-- ==== Sys2Proof/WellFormed.lean ====
section
/-! DEFINITION. Which commands can come from the part's pins: a request's body fits its frame, an unknown code is
unknown, a frame error's bytes form no valid frame and are at most the 64 that count. The meanings do not need it
(they are total); the encodings do. -/

namespace Sys2Proof

/-- The request codes of Table 9-3. -/
def requestCodes : List Nat :=
  [0x00, 0x01, 0x02, 0x03, 0x04, 0x05, 0x06, 0x10, 0x11, 0x12, 0x13, 0x14, 0x20, 0x21, 0x22, 0x23, 0x30, 0x31, 0x32, 0x33, 0x34, 0x40, 0x41, 0x42, 0x43]

/-- A command that can arrive as it is written: R129 to R131, R139, R160. -/
def Instr.wf (i : Instr) : Bool :=
  match i with
  | .frameError _ _ bytes => decide (bytes.length ≤ 64) && !frameValid bytes
  | .unknownRequestCode _ _ _ _ code body => decide (body.length ≤ 59) && !requestCodes.contains code.toNat
  | .openSession _ _ _ _ body => decide (body.length ≤ 59)
  | .closeSession _ _ _ _ body => decide (body.length ≤ 59)
  | .readSession _ _ _ _ body => decide (body.length ≤ 59)
  | .requestGrant _ _ _ _ body => decide (body.length ≤ 59)
  | .releaseGrant _ _ _ _ body => decide (body.length ≤ 59)
  | .setQuota _ _ _ _ body => decide (body.length ≤ 59)
  | .setTracker _ _ _ _ body => decide (body.length ≤ 59)
  | .startTracker _ _ _ _ body => decide (body.length ≤ 59)
  | .stopTracker _ _ _ _ body => decide (body.length ≤ 59)
  | .readTracker _ _ _ _ body => decide (body.length ≤ 59)
  | .readHistory _ _ _ _ body => decide (body.length ≤ 59)
  | .claimLine _ _ _ _ body => decide (body.length ≤ 59)
  | .releaseLine _ _ _ _ body => decide (body.length ≤ 59)
  | .setLineMode _ _ _ _ body => decide (body.length ≤ 59)
  | .readLines _ _ _ _ body => decide (body.length ≤ 59)
  | .insertEntry _ _ _ _ body => decide (body.length ≤ 59)
  | .deleteEntry _ _ _ _ body => decide (body.length ≤ 59)
  | .clearLineEntries _ _ _ _ body => decide (body.length ≤ 59)
  | .readEntry _ _ _ _ body => decide (body.length ≤ 59)
  | .listEntries _ _ _ _ body => decide (body.length ≤ 59)
  | .readEvents _ _ _ _ body => decide (body.length ≤ 59)
  | .setEventMask _ _ _ _ body => decide (body.length ≤ 59)
  | .setAttention _ _ _ _ body => decide (body.length ≤ 59)
  | .ackAttention _ _ _ _ body => decide (body.length ≤ 59)
  | .reset .. | .transactionStart .. | .nop .. | .mark .. | .indexEdge .. | .unselectedTransition ..
  | .noMarkLimit .. | .lateTimeout .. | .phaseRise .. | .pulseTimerExpiry .. | .holdAssertion ..
  | .holdDeassertion .. | .silenceExpiry .. | .insertionCompletes .. | .entryDeletionCompletes ..
  | .lineClearCompletes .. | .releaseDeletionCompletes .. | .teardownSweepCompletes ..
  | .spentRemovalCompletes .. | .conditionerHoldBegins .. | .conditionerHoldAbandoned .. => true

end Sys2Proof
end

