-- ==== Sys2Proof/Machine/State.lean ====
section
/-! DEFINITION. The state of the part as plain data, block by block in the manual's order, and the state after reset.

Only shapes and reset values stand here; what reads and changes them is in the other files of this folder. -/

namespace Sys2Proof.Machine

/-! ### Containers -/

/-- A fixed number of like things under one index: the slots of the table, the lines. -/
structure Bank (α : Type) (n : Nat) where
  cells : List α
  size : cells.length = n
  deriving DecidableEq, Repr

/-- The same value in every place. -/
def Bank.fill (n : Nat) {α : Type} (a : α) : Bank α n := ⟨List.replicate n a, by simp⟩

/-- One thing for each of the four ports. -/
structure PerPort (α : Type) where
  a : α
  b : α
  c : α
  d : α
  deriving DecidableEq, Repr

/-! ### Mark Conditioner (chapter 1) -/

/-- The filtered level of a channel (1.1). It is `awaiting` from a reset or an accepted SET_TRACKER at that tick until
the channel's next sample sets it (R5, R6). -/
inductive Filtered where
  | awaiting (since : Nat)
  | level (l : Level)
  deriving DecidableEq, Repr

/-- A conditioner channel: the level last sampled on the pin, the filtered level, the tick at which the hold in
progress began, if one is, and the tick whose sample a command was the last to take (R1, log entry 26). -/
structure ChannelState where
  pin : Level
  filtered : Filtered
  hold : Option Nat
  sampled : Option Nat
  deriving DecidableEq, Repr

/-! ### Phase Tracker (chapters 1 and 2) -/

inductive Edge where
  | rising | falling
  deriving DecidableEq, Repr

inductive SlipPolicy where
  | align | report
  deriving DecidableEq, Repr

/-- The configuration record, Tables 1-1 and 2-2. -/
structure TrackerConfig where
  marks : Nat
  avgDepth : Nat
  early : Nat
  late : Nat
  coastLimit : Nat
  slipPolicy : SlipPolicy
  autoReacquire : Bool
  indexUse : Bool
  markEdge : Edge
  markFilter : Nat
  indexEdge : Edge
  indexFilter : Nat
  deriving DecidableEq, Repr

/-- The defaults of Tables 1-1 and 2-2 (R43). -/
def TrackerConfig.default : TrackerConfig :=
  { marks := 16, avgDepth := 4, early := 4, late := 4, coastLimit := 3, slipPolicy := .align,
    autoReacquire := false, indexUse := true, markEdge := .rising, markFilter := 2, indexEdge := .rising,
    indexFilter := 2 }

/-- Table 2-1. -/
inductive TrackerState where
  | stopped | acquiring | locked | coasting | lost
  deriving DecidableEq, Repr

/-- The kind of the reference time (R7). -/
inductive RefKind where
  | genuine | nominal
  deriving DecidableEq, Repr

/-- The reference: a time and its kind (R7). -/
structure Reference where
  time : Nat
  kind : RefKind
  deriving DecidableEq, Repr

/-- What the tracker holds (2.1, R7, R8, R14). `ring` is oldest first; `markPos` is `none` when undefined; `phase` is
the phase count, `none` when invalid. -/
structure Tracker where
  state : TrackerState
  config : TrackerConfig
  ring : List Nat
  estimate : Nat
  reference : Option Reference
  markPos : Option Nat
  coast : Nat
  indexSeen : Bool
  indexPending : Bool
  missed : Nat
  cycle : Count32
  phase : Option Nat
  deriving DecidableEq, Repr

/-! ### Cam Table and Table Engine (chapter 3) -/

/-- How a pulse's end is measured (Table 3-1). -/
inductive WidthKind where
  | phase | time
  deriving DecidableEq, Repr

/-- The action of an entry; only PULSE has a width (R44). -/
inductive Action where
  | set
  | clear
  | pulse (kind : WidthKind) (width : Nat)
  deriving DecidableEq, Repr

/-- The cycle filter of an entry; only NTH has N and an offset (R44). -/
inductive CycleFilter where
  | every
  | nth (n offset : Nat)
  | once
  deriving DecidableEq, Repr

/-- The fields of an entry that the controller supplies (Table 3-1). -/
structure EntryFields where
  line : Line
  trigger : Nat
  action : Action
  lead : Nat
  filter : CycleFilter
  notify : Bool
  label : BitVec 16
  deriving DecidableEq, Repr

inductive EntryStatus where
  | pending | active | spent
  deriving DecidableEq, Repr

/-- An entry of the cam table (Table 3-1); its id is the slot it stands in. -/
structure Entry where
  owner : Port
  fields : EntryFields
  status : EntryStatus
  seq : Count32
  effective : Nat
  clamped : Bool
  deriving DecidableEq, Repr

/-- The jobs of the port queue (Table 3-4). -/
inductive PortJob where
  | insertion (f : EntryFields)
  | entryDeletion (id : EntryId)
  | lineClear (l : Line)
  | releaseDeletion (l : Line)
  deriving DecidableEq, Repr

/-- The jobs of the internal queue (Table 3-4). -/
inductive InternalJob where
  | sweep (p : Port)
  | spentRemoval (id : EntryId) (seq : Count32)
  deriving DecidableEq, Repr

inductive Job where
  | port (p : Port) (j : PortJob)
  | internal (j : InternalJob)
  deriving DecidableEq, Repr

/-- The job in service: the tick at which it was taken and the number of the draw that gives its time (R57). -/
structure Service where
  job : Job
  takenAt : Nat
  draw : Nat
  deriving DecidableEq, Repr

/-- The Table Engine (R55). -/
structure Engine where
  internal : List InternalJob
  waiting : PerPort (Option PortJob)
  service : Option Service
  lastServed : Port
  deriving DecidableEq, Repr

/-! ### Cam Walker (chapter 4) -/

/-- The walk position, Table 4-1: none, before phase 0, or the phase walked up to. -/
inductive WalkPos where
  | none
  | before0
  | reached (phase : Nat)
  deriving DecidableEq, Repr

/-! ### Line Drivers (chapter 5) -/

inductive LineMode where
  | released | safe | ready | run
  deriving DecidableEq, Repr

inductive Polarity where
  | activeHigh | activeLow
  deriving DecidableEq, Repr

/-- A level an output pin is driven to; `float` is high impedance (Table 5-2). -/
inductive Drive where
  | low | high | float
  deriving DecidableEq, Repr

/-- The pulse state of a line, with the entry that set the pending pulse (R95). -/
inductive Pulse where
  | none
  | phaseEnd (id : EntryId) (seq : Count32) (phase : Nat) (cycle : Count32)
  | timeEnd (id : EntryId) (seq : Count32) (expires : Nat)
  deriving DecidableEq, Repr

/-- A waiting record (5.1). -/
structure Waiter where
  port : Port
  polarity : Polarity
  safeLevel : Drive
  deriving DecidableEq, Repr

/-- What is held for each line (Table 5-1); `active` is the logical level. -/
structure LineState where
  owner : Option Port
  mode : LineMode
  polarity : Polarity
  safeLevel : Drive
  active : Bool
  pulse : Pulse
  waiting : List Waiter
  deriving DecidableEq, Repr

/-- A RELEASED line (R93), which is also a line after reset (R111). -/
def LineState.released : LineState :=
  { owner := none, mode := .released, polarity := .activeHigh, safeLevel := .float, active := false, pulse := .none,
    waiting := [] }

/-- The HOLD input: the level last sampled on the pin, until the first sample after a reset the tick of that reset, and
the tick whose sample a command was the last to take (R105, log entry 26). -/
structure HoldInput where
  pin : Level
  awaiting : Option Nat
  sampled : Option Nat
  deriving DecidableEq, Repr

/-! ### Sessions (chapter 6) -/

inductive TeardownCause where
  | closed | silence
  deriving DecidableEq, Repr

/-- The state of a port's session with what exists only in it (Table 6-1): the silence limit in ms while not CLOSED,
the tick from which the silence timer runs while OPEN, the cause while CLOSING. -/
inductive Session where
  | closed
  | opened (limit : Nat) (timerStart : Nat)
  | closing (limit : Nat) (cause : TeardownCause)
  deriving DecidableEq, Repr

/-! ### Port Units (chapter 7) -/

/-- Table 7-2, with the codes of Table 9-7. -/
inductive Status where
  | ok | queued | frameReject | badCode | noSession | already | notGranted | grantHeld | wrongState | badArg | quota
  | tableFull | lineTaken | notOwner | noEntry
  deriving DecidableEq, Repr

/-- A transaction of a port: none; in progress, with the reply frame captured at its start (Table 7-1); or a select
that was asserted through a RESET and is ignored until released (R129, R142). -/
inductive Transaction where
  | none
  | inProgress (captured : List Byte)
  | ignored
  deriving DecidableEq, Repr

/-- The long requests of Table 7-3. -/
inductive LongRequest where
  | insertEntry | deleteEntry | clearLineEntries | releaseLine | closeSession
  deriving DecidableEq, Repr

/-- The request slot (R132). -/
inductive Slot where
  | idle
  | working (request : LongRequest) (tag : Tag)
  | teardown (tag : Tag)
  deriving DecidableEq, Repr

/-- The reply register (R135). -/
inductive Reply where
  | empty
  | pending (tag : Tag) (epoch : Byte)
  | done (tag : Tag) (status : Status) (body : List Byte) (epoch : Byte)
  deriving DecidableEq, Repr

/-! ### Event Queues and Attention Logic (chapter 8) -/

/-- The causes of a STATE record (Table 2-3). -/
inductive StateCause where
  | start | lock | coast | relock | limit | index | stop | auto
  deriving DecidableEq, Repr

/-- The twelve kinds of Table 8-2. -/
inductive EventKind where
  | fired | leadLimit | lineGranted | state | markRejected | markSubstituted | slip | indexMissed | hold | peer | cycle
  | lost
  deriving DecidableEq, Repr

/-- The payload of an event record, by kind (Tables 8-2 and 9-10). A PEER record of an open carries no cause. -/
inductive Payload where
  | fired (id : EntryId) (line : Line) (label : BitVec 16) (last : Bool)
  | leadLimit (id : EntryId) (line : Line) (label : BitVec 16)
  | lineGranted (line : Line)
  | state (old new : TrackerState) (cause : StateCause)
  | markRejected (elapsed : Nat)
  | markSubstituted (coast : Nat)
  | slip (offset dropped : Nat)
  | indexMissed (count : Nat)
  | hold (on : Bool)
  | peer (port : Port) (closed : Option TeardownCause)
  | cycle
  | lost (count : Nat) (first : EventKind)
  deriving DecidableEq, Repr

/-- A record as it is posted, before a queue gives it a sequence; `phase` is `none` for the invalid phase (R146). -/
structure Record where
  phase : Option Nat
  cycle : Count32
  payload : Payload
  deriving DecidableEq, Repr

/-- A stored event record (R144). -/
structure EventRecord where
  seq : Byte
  record : Record
  deriving DecidableEq, Repr

/-- The event mask (Table 8-1). -/
structure EventMask where
  state : Bool
  markRejected : Bool
  markSubstituted : Bool
  slip : Bool
  indexMissed : Bool
  deriving DecidableEq, Repr

/-- The mask a session opens with, and of reset: STATE and SLIP (R114, R147). -/
def EventMask.atOpen : EventMask :=
  { state := true, markRejected := false, markSubstituted := false, slip := true, indexMissed := false }

/-- A set of the five attention causes: the latches, the enables, the causes an ACK names. -/
structure CauseSet where
  watermark : Bool
  nonempty : Bool
  reply : Bool
  tracker : Bool
  line : Bool
  deriving DecidableEq, Repr

/-- No cause. -/
def CauseSet.empty : CauseSet :=
  { watermark := false, nonempty := false, reply := false, tracker := false, line := false }

/-- The attention state of a port (Table 8-1). -/
structure Attention where
  enables : CauseSet
  watermarkEdge : Edge
  nonemptyEdge : Edge
  watermark : Nat
  latched : CauseSet
  watermarkHolds : Bool
  nonemptyHolds : Bool
  deriving DecidableEq, Repr

/-- R158. -/
def Attention.atReset : Attention :=
  { enables := CauseSet.empty, watermarkEdge := .rising, nonemptyEdge := .rising, watermark := 16,
    latched := CauseSet.empty, watermarkHolds := false, nonemptyHolds := false }

/-- All that belongs to one port: its Port Unit (Table 7-1), its session (Table 6-1), its event queue and attention
(Table 8-1). `received` is the count of complete bytes of R129, of the transaction in progress or else of the last one
(log entry 8). -/
structure PortState where
  transaction : Transaction
  received : Nat
  slot : Slot
  reply : Reply
  session : Session
  epoch : Byte
  quota : Nat
  queue : List EventRecord
  queueSeq : Byte
  mask : EventMask
  interval : Nat
  attention : Attention
  deriving DecidableEq, Repr

/-- R127, R142, R152, R158. -/
def PortState.atReset : PortState :=
  { transaction := .none, received := 0, slot := .idle, reply := .empty, session := .closed, epoch := 0, quota := Config.resetQuota,
    queue := [], queueSeq := 0, mask := EventMask.atOpen, interval := 0, attention := Attention.atReset }

/-! ### The part -/

/-- The state of the part. `now`, `draws` and `pending` are the model's own: the tick count, the number of free values
drawn, the commands that wait. -/
structure State where
  now : Nat
  draws : Nat
  pending : List Instr
  markChannel : ChannelState
  indexChannel : ChannelState
  hold : HoldInput
  tracker : Tracker
  slots : Bank (Option Entry) 128
  nextSeq : Count32
  engine : Engine
  walkPos : WalkPos
  lastFired : Bank (Option Count32) 128
  lines : Bank LineState 16
  ports : PerPort PortState
  grant : Option Port
  deriving DecidableEq, Repr

/-- Why a command could stop the part with a fault: never. Every command of the table has an effect in every state
(log entry 6), so the type has no value. -/
inductive Fault
  deriving DecidableEq, Repr

/-- Why a command is refused. -/
inductive Refusal where
  /-- Raised by `exec` for a command that has no meaning yet; safe. No arm raises it: every command has a meaning. -/
  | notModelled (mnemonic : String)
  deriving DecidableEq, Repr

/-- The tracker after reset (R16, R43). -/
def Tracker.atReset : Tracker :=
  { state := .stopped, config := TrackerConfig.default, ring := [], estimate := 0, reference := none, markPos := none,
    coast := 0, indexSeen := false, indexPending := false, missed := 0, cycle := 0, phase := none }

/-- The Table Engine after reset (R68). -/
def Engine.atReset : Engine :=
  { internal := [], waiting := { a := none, b := none, c := none, d := none }, service := none, lastServed := .D }

/-- A conditioner channel when a reset ends at tick `t` with this level on its pin: no hold, and the filtered level to
be taken from the first sample, which is that of the tick after `t` (R6). -/
def ChannelState.atReset (t : Nat) (pin : Level) : ChannelState :=
  { pin := pin, filtered := .awaiting t, hold := none, sampled := some t }

/-- The HOLD input when a reset ends at tick `t` with this level on its pin (R105). -/
def HoldInput.atReset (t : Nat) (pin : Level) : HoldInput := { pin := pin, awaiting := some t, sampled := some t }

/-- Every block at its reset values when a reset ends at tick `t` with these levels on the input pins. -/
def State.resetAt (t : Nat) (mark index hold : Level) : State :=
  { now := t
    draws := 0
    pending := []
    markChannel := ChannelState.atReset t mark
    indexChannel := ChannelState.atReset t index
    hold := HoldInput.atReset t hold
    tracker := Tracker.atReset
    slots := Bank.fill 128 none
    nextSeq := 0
    engine := Engine.atReset
    walkPos := .none
    lastFired := Bank.fill 128 none
    lines := Bank.fill 16 LineState.released
    ports :=
      { a := PortState.atReset, b := PortState.atReset, c := PortState.atReset, d := PortState.atReset }
    grant := none }

/-- The part right after reset, at tick 0, with the three input pins low (log entry 2). -/
def State.reset : State := State.resetAt 0 .low .low .low

end Sys2Proof.Machine
end

