-- ==== Sys2Proof/Machine/Operands.lean ====
section
/-! DEFINITION. The operands of the requests: every body of Table 9-2 read into its fields, `none` where R160 or the
owning rule refuses it with BAD_ARG; and the code values and bodies of the replies and records (Tables 9-4 to 9-10).

A body has exactly one length, so a parser that matches a list of that length makes the length check too. -/

namespace Sys2Proof.Machine

/-! ### Ports, lines and ids on the wire -/

/-- The ports in the order A, B, C, D. -/
def allPorts : List Port := [.A, .B, .C, .D]

/-- The code of a port (R160). -/
def portCode : Port → Nat
  | .A => 0
  | .B => 1
  | .C => 2
  | .D => 3

/-- The port of a code; 4 and above is none (R160). -/
def portOfCode : Nat → Option Port
  | 0 => some .A
  | 1 => some .B
  | 2 => some .C
  | 3 => some .D
  | _ => none

/-- Where a reply shows no port it carries 0xFF (R160). -/
def optPortByte : Option Port → Byte
  | none => 0xFF#8
  | some p => BitVec.ofNat 8 (portCode p)

/-- The line byte (R160): values 16 to 31 are out of range and bits 5–7 reserved, so only 0 to 15 name a line. -/
def parseLine (b : Byte) : Option Line :=
  if h : b.toNat < 16 then some ⟨b.toNat, h⟩ else none

/-- An entry id, 0 to 127 (R160). -/
def parseId (b : Byte) : Option EntryId :=
  if h : b.toNat < 128 then some ⟨b.toNat, h⟩ else none

/-- A yes-or-no byte: 0 or 1. -/
def parseFlag (b : Byte) : Option Bool :=
  match b.toNat with
  | 0 => some false
  | 1 => some true
  | _ => none

/-- A yes-or-no byte of a reply: 1 for yes and 0 for no (R162). -/
def flagByte (b : Bool) : Byte := if b then 1#8 else 0#8

/-- An edge code: 0 RISING, 1 FALLING (Tables 9-2, 9-5). -/
def parseEdge : Nat → Option Edge
  | 0 => some .rising
  | 1 => some .falling
  | _ => none

/-- The code of an edge. -/
def edgeCode : Edge → Nat
  | .rising => 0
  | .falling => 1

/-- A number field with its range, both ends included. -/
def inRange (lo hi n : Nat) : Option Nat := if lo ≤ n ∧ n ≤ hi then some n else none

/-! ### Bodies of the requests -/

/-- A request that takes no arguments: body length 0. -/
def parseNothing : List Byte → Option Unit
  | [] => some ()
  | _ => none

/-- OPEN_SESSION: the silence limit, 10 to 60,000 ms (R114). -/
def parseOpenSession : List Byte → Option Nat
  | [b0, b1] => inRange 10 60000 (leValue [b0, b1])
  | _ => none

/-- SET_QUOTA: a port and a quota up to 128 (R126). -/
def parseSetQuota : List Byte → Option (Port × Nat)
  | [p, q] =>
    match portOfCode p.toNat, inRange 0 128 q.toNat with
    | some p, some q => some (p, q)
    | _, _ => none
  | _ => none

/-- SLIP_POLICY: 0 ALIGN, 1 REPORT (Table 9-5). -/
def parseSlipPolicy (b : Byte) : Option SlipPolicy :=
  match b.toNat with
  | 0 => some .align
  | 1 => some .report
  | _ => none

/-- The code of a slip policy. -/
def slipPolicyCode : SlipPolicy → Nat
  | .align => 0
  | .report => 1

/-- SET_TRACKER: the configuration record of Table 9-5, refused in the cases of R5 and R18. -/
def parseTrackerConfig : List Byte → Option TrackerConfig
  | [m, depth, early, late, coast, policy, auto, use, markEdge, markFilter, indexEdge, indexFilter] => do
    let marks ← if m.toNat ∈ [1, 2, 4, 8, 16, 32, 64] then some m.toNat else none
    let avgDepth ← if depth.toNat ∈ [1, 2, 4, 8] then some depth.toNat else none
    let early ← inRange 1 15 early.toNat
    let late ← inRange 1 16 late.toNat
    let coastLimit ← inRange 0 15 coast.toNat
    let slipPolicy ← parseSlipPolicy policy
    let autoReacquire ← parseFlag auto
    let indexUse ← parseFlag use
    let markEdge ← parseEdge markEdge.toNat
    let indexEdge ← parseEdge indexEdge.toNat
    some { marks, avgDepth, early, late, coastLimit, slipPolicy, autoReacquire, indexUse, markEdge,
           markFilter := markFilter.toNat, indexEdge, indexFilter := indexFilter.toNat }
  | _ => none

/-- The operands of CLAIM_LINE (R96). -/
structure ClaimArgs where
  line : Line
  polarity : Polarity
  safeLevel : Drive
  wait : Bool
  deriving DecidableEq, Repr

/-- 0 ACTIVE_HIGH, 1 ACTIVE_LOW (Table 9-2). -/
def parsePolarity (b : Byte) : Option Polarity :=
  match b.toNat with
  | 0 => some .activeHigh
  | 1 => some .activeLow
  | _ => none

/-- 0 LOW, 1 HIGH, 2 FLOAT (Table 9-2). -/
def parseSafeLevel (b : Byte) : Option Drive :=
  match b.toNat with
  | 0 => some .low
  | 1 => some .high
  | 2 => some .float
  | _ => none

/-- CLAIM_LINE: line, polarity, safe level, wait (R96). -/
def parseClaim : List Byte → Option ClaimArgs
  | [l, pol, safe, wait] => do
    let line ← parseLine l
    let polarity ← parsePolarity pol
    let safeLevel ← parseSafeLevel safe
    let wait ← parseFlag wait
    some { line, polarity, safeLevel, wait }
  | _ => none

/-- RELEASE_LINE and CLEAR_LINE_ENTRIES: a line (R62, R98). -/
def parseLineBody : List Byte → Option Line
  | [l] => parseLine l
  | _ => none

/-- SET_LINE_MODE: a line and SAFE (1) or RUN (3), as Table 9-7 codes the modes; `true` for RUN (R102). -/
def parseLineMode : List Byte → Option (Line × Bool)
  | [l, m] =>
    match parseLine l, m.toNat with
    | some line, 1 => some (line, false)
    | some line, 3 => some (line, true)
    | _, _ => none
  | _ => none

/-- The action with its width kind and width, refused in the cases of R45. The width kind codes are 0 none, 1 PHASE,
2 TIME (Table 9-4). -/
def parseAction (action kind width : Nat) : Option Action :=
  match action, kind with
  | 0, 0 => if width = 0 then some .set else none
  | 1, 0 => if width = 0 then some .clear else none
  | 2, 1 => (inRange 1 4095 width).map (.pulse .phase)
  | 2, 2 => (inRange 1 65535 width).map (.pulse .time)
  | _, _ => none

/-- The cycle filter with N and offset, refused in the cases of R45 (0 EVERY, 1 NTH, 2 ONCE). -/
def parseFilter (filter n offset : Nat) : Option CycleFilter :=
  match filter with
  | 0 => if n = 0 ∧ offset = 0 then some .every else none
  | 1 => if 2 ≤ n ∧ offset < n then some (.nth n offset) else none
  | 2 => if n = 0 ∧ offset = 0 then some .once else none
  | _ => none

/-- A two-bit notify code: 0 no, 1 yes (Table 9-4). -/
def parseNotify : Nat → Option Bool
  | 0 => some false
  | 1 => some true
  | _ => none

/-- INSERT_ENTRY: the body of Table 9-4, refused in the cases of R45. -/
def parseEntry : List Byte → Option EntryFields
  | [l, t0, t1, coding, w0, w1, d0, d1, n, off, b0, b1] => do
    let line ← parseLine l
    let trigger ← inRange 0 4095 (leValue [t0, t1])
    let c := coding.toNat
    let action ← parseAction (c % 4) (c / 4 % 4) (leValue [w0, w1])
    let filter ← parseFilter (c / 16 % 4) n.toNat off.toNat
    let notify ← parseNotify (c / 64)
    some { line, trigger, action, lead := leValue [d0, d1], filter, notify,
           label := BitVec.ofNat 16 (leValue [b0, b1]) }
  | _ => none

/-- DELETE_ENTRY, READ_ENTRY and LIST_ENTRIES: an entry id (R61, R66, R67). -/
def parseIdBody : List Byte → Option EntryId
  | [b] => parseId b
  | _ => none

/-- READ_EVENTS: a count, 1 to 4 (R151). -/
def parseCount : List Byte → Option Nat
  | [b] => inRange 1 4 b.toNat
  | _ => none

/-- The five low bits of a byte as a set of attention causes (Table 9-6); bits 5–7 must be 0. -/
def parseCauses (b : Byte) : Option CauseSet :=
  if b.toNat < 32 then
    some { watermark := b.getLsbD 0, nonempty := b.getLsbD 1, reply := b.getLsbD 2, tracker := b.getLsbD 3,
           line := b.getLsbD 4 }
  else none

/-- SET_EVENT_MASK: the mask bits of Table 9-2, bits 5–7 reserved, and K (R147). -/
def parseEventMask : List Byte → Option (EventMask × Nat)
  | [b, k] =>
    if b.toNat < 32 then
      some ({ state := b.getLsbD 0, markRejected := b.getLsbD 1, markSubstituted := b.getLsbD 2,
              slip := b.getLsbD 3, indexMissed := b.getLsbD 4 }, k.toNat)
    else none
  | _ => none

/-- The operands of SET_ATTENTION (R156). -/
structure AttentionArgs where
  enables : CauseSet
  watermarkEdge : Edge
  nonemptyEdge : Edge
  watermark : Nat
  deriving DecidableEq, Repr

/-- SET_ATTENTION: enables, the two edge codes with bits 4–7 reserved, W from 1 to 31 (R156, Table 9-2). -/
def parseAttention : List Byte → Option AttentionArgs
  | [en, edges, w] => do
    let enables ← parseCauses en
    let watermarkEdge ← parseEdge (edges.toNat % 4)
    let nonemptyEdge ← parseEdge (edges.toNat / 4)
    let watermark ← inRange 1 31 w.toNat
    some { enables, watermarkEdge, nonemptyEdge, watermark }
  | _ => none

/-- ACK_ATTENTION: a set of causes (R157). -/
def parseAck : List Byte → Option CauseSet
  | [b] => parseCauses b
  | _ => none

/-! ### Codes of replies and records (Table 9-7) -/

/-- Status codes. -/
def Status.code : Status → Byte
  | .ok => 1
  | .queued => 2
  | .frameReject => 3
  | .badCode => 4
  | .noSession => 5
  | .already => 6
  | .notGranted => 7
  | .grantHeld => 8
  | .wrongState => 9
  | .badArg => 10
  | .quota => 11
  | .tableFull => 12
  | .lineTaken => 13
  | .notOwner => 14
  | .noEntry => 15

/-- Tracker state codes. -/
def TrackerState.code : TrackerState → Byte
  | .stopped => 0
  | .acquiring => 1
  | .locked => 2
  | .coasting => 3
  | .lost => 4

/-- STATE cause codes. -/
def StateCause.code : StateCause → Byte
  | .start => 1
  | .lock => 2
  | .coast => 3
  | .relock => 4
  | .limit => 5
  | .index => 6
  | .stop => 7
  | .auto => 8

/-- Line mode codes. -/
def LineMode.code : LineMode → Nat
  | .released => 0
  | .safe => 1
  | .ready => 2
  | .run => 3

/-- Pin level codes. -/
def Drive.code : Drive → Nat
  | .low => 0
  | .high => 1
  | .float => 2

/-- Entry status codes. -/
def EntryStatus.code : EntryStatus → Byte
  | .pending => 0
  | .active => 1
  | .spent => 2

/-- Teardown cause codes of a PEER record (Table 9-10). -/
def TeardownCause.code : TeardownCause → Byte
  | .closed => 1
  | .silence => 2

/-- Event kind codes (Table 9-9). -/
def EventKind.code : EventKind → Byte
  | .fired => 1
  | .leadLimit => 2
  | .lineGranted => 3
  | .state => 4
  | .markRejected => 5
  | .markSubstituted => 6
  | .slip => 7
  | .indexMissed => 8
  | .hold => 9
  | .peer => 10
  | .cycle => 11
  | .lost => 12

/-- A set of causes in the bits of Table 9-6. -/
def CauseSet.byte (c : CauseSet) : Byte :=
  BitVec.ofNat 8 (c.watermark.toNat + 2 * c.nonempty.toNat + 4 * c.reply.toNat + 8 * c.tracker.toNat +
    16 * c.line.toNat)

/-- A mask in the bits of Table 9-2. -/
def EventMask.byte (m : EventMask) : Byte :=
  BitVec.ofNat 8 (m.state.toNat + 2 * m.markRejected.toNat + 4 * m.markSubstituted.toNat + 8 * m.slip.toNat +
    16 * m.indexMissed.toNat)

/-! ### Layouts of records and entries -/

/-- The kind of a payload (Table 8-2). -/
def Payload.kind : Payload → EventKind
  | .fired .. => .fired
  | .leadLimit .. => .leadLimit
  | .lineGranted .. => .lineGranted
  | .state .. => .state
  | .markRejected .. => .markRejected
  | .markSubstituted .. => .markSubstituted
  | .slip .. => .slip
  | .indexMissed .. => .indexMissed
  | .hold .. => .hold
  | .peer .. => .peer
  | .cycle => .cycle
  | .lost .. => .lost

/-- The four payload bytes of Table 9-10; bytes it does not assign are 0 (R162). -/
def Payload.bytes : Payload → List Byte
  | .fired id line label last =>
    BitVec.ofNat 8 (id.val + 128 * last.toNat) :: BitVec.ofNat 8 line.val :: leBytes 2 label.toNat
  | .leadLimit id line label => BitVec.ofNat 8 id.val :: BitVec.ofNat 8 line.val :: leBytes 2 label.toNat
  | .lineGranted line => [BitVec.ofNat 8 line.val, 0, 0, 0]
  | .state old new cause => [old.code, new.code, cause.code, 0]
  | .markRejected elapsed => leBytes 3 elapsed ++ [0]
  | .markSubstituted coast => [BitVec.ofNat 8 coast, 0, 0, 0]
  | .slip offset dropped => BitVec.ofNat 8 offset :: 0 :: leBytes 2 dropped
  | .indexMissed count => [BitVec.ofNat 8 count, 0, 0, 0]
  | .hold on => [flagByte on, 0, 0, 0]
  | .peer port none => [BitVec.ofNat 8 (portCode port), 0, 0, 0]
  | .peer port (some cause) => [BitVec.ofNat 8 (portCode port), 1, cause.code, 0]
  | .cycle => [0, 0, 0, 0]
  | .lost count first => [BitVec.ofNat 8 count, first.code, 0, 0]

/-- The phase field of a record: 0xFFFF for the invalid phase (R146, R162). -/
def phaseField : Option Nat → Nat
  | none => 0xFFFF
  | some ph => ph

/-- The twelve bytes of a stored record (Table 9-9, R162). -/
def EventRecord.bytes (r : EventRecord) : List Byte :=
  r.record.payload.kind.code :: r.seq ::
    (leBytes 2 (phaseField r.record.phase) ++ leBytes 4 r.record.cycle.toNat ++ r.record.payload.bytes)

/-- The action code, width kind code and width of Table 9-4; absent fields are 0 (R44). -/
def Action.codes : Action → Nat × Nat × Nat
  | .set => (0, 0, 0)
  | .clear => (1, 0, 0)
  | .pulse .phase w => (2, 1, w)
  | .pulse .time w => (2, 2, w)

/-- The filter code, N and offset of Table 9-4; absent fields are 0 (R44). -/
def CycleFilter.codes : CycleFilter → Nat × Nat × Nat
  | .every => (0, 0, 0)
  | .nth n off => (1, n, off)
  | .once => (2, 0, 0)

/-- The twelve bytes of Table 9-4 for an entry's fields. -/
def EntryFields.bytes (f : EntryFields) : List Byte :=
  let (action, kind, width) := f.action.codes
  let (filter, n, off) := f.filter.codes
  [BitVec.ofNat 8 f.line.val] ++ leBytes 2 f.trigger ++
    [BitVec.ofNat 8 (action + 4 * kind + 16 * filter + 64 * f.notify.toNat)] ++ leBytes 2 width ++
    leBytes 2 f.lead ++ [BitVec.ofNat 8 n, BitVec.ofNat 8 off] ++ leBytes 2 f.label.toNat

/-- The twelve bytes of Table 9-5 for a configuration record. -/
def TrackerConfig.bytes (c : TrackerConfig) : List Byte :=
  [BitVec.ofNat 8 c.marks, BitVec.ofNat 8 c.avgDepth, BitVec.ofNat 8 c.early, BitVec.ofNat 8 c.late,
   BitVec.ofNat 8 c.coastLimit, BitVec.ofNat 8 (slipPolicyCode c.slipPolicy), flagByte c.autoReacquire,
   flagByte c.indexUse, BitVec.ofNat 8 (edgeCode c.markEdge), BitVec.ofNat 8 c.markFilter,
   BitVec.ofNat 8 (edgeCode c.indexEdge), BitVec.ofNat 8 c.indexFilter]

end Sys2Proof.Machine
end

