-- ==== Sys2Proof/Machine/Flags.lean ====
section
/-! DEFINITION. The flags of the Attention Logic (8.5): sets of causes, the depth conditions and their edges, the
latches, the ATTN output; and the event queue they watch (8.1, 8.3). All of it is per port. -/

namespace Sys2Proof.Machine

/-! ### Sets of causes -/

/-- The causes in either set. -/
def CauseSet.union (x y : CauseSet) : CauseSet :=
  { watermark := x.watermark || y.watermark, nonempty := x.nonempty || y.nonempty, reply := x.reply || y.reply,
    tracker := x.tracker || y.tracker, line := x.line || y.line }

/-- The causes of the first set that are not in the second. -/
def CauseSet.without (x y : CauseSet) : CauseSet :=
  { watermark := x.watermark && !y.watermark, nonempty := x.nonempty && !y.nonempty, reply := x.reply && !y.reply,
    tracker := x.tracker && !y.tracker, line := x.line && !y.line }

/-- Whether the sets share a cause. -/
def CauseSet.meets (x y : CauseSet) : Bool :=
  (x.watermark && y.watermark) || (x.nonempty && y.nonempty) || (x.reply && y.reply) || (x.tracker && y.tracker) ||
    (x.line && y.line)

/-- Latch more causes; a latched cause stays latched (R153, R154). -/
def Attention.latch (a : Attention) (c : CauseSet) : Attention := { a with latched := a.latched.union c }

/-- Whether the ATTN output is asserted: some latched cause is enabled (R155). The pin is driven low then, high
otherwise. -/
def Attention.asserted (a : Attention) : Bool := a.latched.meets a.enables

/-- The level the ATTN pin is driven to (R155). -/
def Attention.pin (a : Attention) : Level := if a.asserted then .low else .high

/-! ### Depth conditions (R153) -/

/-- Whether a condition going from `before` to `after` makes an edge of the selected direction. -/
def edgeMade (e : Edge) (before after : Bool) : Bool :=
  match e with
  | .rising => !before && after
  | .falling => before && !after

/-- The WATERMARK and NONEMPTY conditions evaluated afresh at a new depth, each latching its cause at an edge of its
selected direction (R153). -/
def Attention.atDepth (a : Attention) (depth : Nat) : Attention :=
  let wm := decide (a.watermark ≤ depth)
  let ne := decide (1 ≤ depth)
  { a with
    latched := a.latched.union
      { CauseSet.empty with watermark := edgeMade a.watermarkEdge a.watermarkHolds wm,
                            nonempty := edgeMade a.nonemptyEdge a.nonemptyHolds ne }
    watermarkHolds := wm
    nonemptyHolds := ne }

/-- The causes a record latches by its arrival: TRACKER for STATE, LINE for LINE_GRANTED (R154). -/
def Payload.causes (x : Payload) : CauseSet :=
  { CauseSet.empty with tracker := decide (x.kind = .state), line := decide (x.kind = .lineGranted) }

/-! ### The event queue (R149) -/

/-- A LOST record with one more arrival counted in it, up to 255; any other record is left as it is. -/
def EventRecord.bumpLost (r : EventRecord) : EventRecord :=
  match r.record.payload with
  | .lost count first => { r with record := { r.record with payload := .lost (min 255 (count + 1)) first } }
  | _ => r

/-- Whether a record is a LOST record. -/
def EventRecord.isLost (r : EventRecord) : Bool := decide (r.record.payload.kind = .lost)

/-- The queue with the count of its newest record raised, if that is a LOST record. -/
def bumpNewest (q : List EventRecord) : List EventRecord :=
  match q.getLast? with
  | some r => q.dropLast ++ [r.bumpLost]
  | none => q

/-- Whether the newest record of a queue is a LOST record. -/
def newestIsLost (q : List EventRecord) : Bool :=
  match q.getLast? with
  | some r => r.isLost
  | none => false

/-- The LOST record that stands for an arrival (R149). -/
def lostFor (r : Record) : Record := { r with payload := .lost 1 r.payload.kind }

/-- A queue and its sequence counter after a record arrives: appended, replaced by a LOST record, or counted in one
(R144, R149). -/
def storeRecord (q : List EventRecord) (seq : Byte) (r : Record) : List EventRecord × Byte :=
  if q.length ≤ 30 then (q ++ [{ seq := seq, record := r }], seq + 1)
  else if q.length = 31 ∧ newestIsLost q = false then (q ++ [{ seq := seq, record := lostFor r }], seq + 1)
  else (bumpNewest q, seq)

/-- A record arrives at a port: it is stored or counted (R149), a change of depth is handed to the Attention Logic
(R153), and STATE and LINE_GRANTED records latch their causes (R154). -/
def PortState.arrive (ps : PortState) (r : Record) : PortState :=
  let stored := storeRecord ps.queue ps.queueSeq r
  let att := if stored.1.length = ps.queue.length then ps.attention else ps.attention.atDepth stored.1.length
  { ps with queue := stored.1, queueSeq := stored.2, attention := att.latch r.payload.causes }

/-- Whether the port's session is OPEN. -/
def PortState.isOpen (ps : PortState) : Bool :=
  match ps.session with
  | .opened .. => true
  | _ => false

/-- Whether the port's session is CLOSED. -/
def PortState.isClosed (ps : PortState) : Bool :=
  match ps.session with
  | .closed => true
  | _ => false

/-- The reply register passes to DONE, with the port's epoch, and REPLY latches (R135, R140, R154). -/
def PortState.passToDone (ps : PortState) (tag : Tag) (status : Status) (body : List Byte) : PortState :=
  { ps with
    reply := .done tag status body ps.epoch
    attention := ps.attention.latch { CauseSet.empty with reply := true } }

/-- The reply register passes to PENDING, with the port's epoch (R141). -/
def PortState.passToPending (ps : PortState) (tag : Tag) : PortState :=
  { ps with reply := .pending tag ps.epoch }

/-- The queue cleared and its sequence counter set to 0; the clearing is a change of depth (R152). -/
def PortState.clearQueue (ps : PortState) : PortState :=
  { ps with
    queue := []
    queueSeq := 0
    attention := if ps.queue = [] then ps.attention else ps.attention.atDepth 0 }

end Sys2Proof.Machine
end

