-- ==== Sys2Proof/Machine/Ops.lean ====
section
/-! DEFINITION. The operations the meanings share: the containers and named updates of State, the passing of time, the
posting of records, the Table Engine's choice, the changes of a line, the notices, the removal of entries, and the
reply frame. -/

namespace Sys2Proof.Machine

/-! ### Containers -/

/-- The thing in a place. -/
def Bank.get {α : Type} {n : Nat} (b : Bank α n) (i : Fin n) : α := b.cells[i.val]'(by rw [b.size]; exact i.isLt)

/-- Another thing in a place. -/
def Bank.set {α : Type} {n : Nat} (b : Bank α n) (i : Fin n) (a : α) : Bank α n :=
  ⟨b.cells.set i.val a, by simp [b.size]⟩

/-- Every thing changed alike. -/
def Bank.map {α : Type} {n : Nat} (f : α → α) (b : Bank α n) : Bank α n := ⟨b.cells.map f, by simp [b.size]⟩

/-- The things with their places, lowest place first. -/
def Bank.indexed {α : Type} {n : Nat} (b : Bank α n) : List (Fin n × α) := (List.finRange n).zip b.cells

/-- The thing of a port. -/
def PerPort.get {α : Type} (x : PerPort α) : Port → α
  | .A => x.a
  | .B => x.b
  | .C => x.c
  | .D => x.d

/-- Another thing for a port. -/
def PerPort.set {α : Type} (x : PerPort α) (p : Port) (v : α) : PerPort α :=
  match p with
  | .A => { x with a := v }
  | .B => { x with b := v }
  | .C => { x with c := v }
  | .D => { x with d := v }

/-- Every port's thing changed, by its port. -/
def PerPort.mapPort {α : Type} (f : Port → α → α) (x : PerPort α) : PerPort α :=
  { a := f .A x.a, b := f .B x.b, c := f .C x.c, d := f .D x.d }

/-- The ports from the one after `p`, round to `p` itself (R56). -/
def portsAfter : Port → List Port
  | .A => [.B, .C, .D, .A]
  | .B => [.C, .D, .A, .B]
  | .C => [.D, .A, .B, .C]
  | .D => [.A, .B, .C, .D]

/-! ### Named updates of State -/

def State.setNow (s : State) (x : Nat) : State := { s with now := x }
def State.setDraws (s : State) (x : Nat) : State := { s with draws := x }
def State.setPending (s : State) (x : List Instr) : State := { s with pending := x }
def State.setMarkChannel (s : State) (x : ChannelState) : State := { s with markChannel := x }
def State.setIndexChannel (s : State) (x : ChannelState) : State := { s with indexChannel := x }
def State.setHold (s : State) (x : HoldInput) : State := { s with hold := x }
def State.setTracker (s : State) (x : Tracker) : State := { s with tracker := x }
def State.setSlots (s : State) (x : Bank (Option Entry) 128) : State := { s with slots := x }
def State.setNextSeq (s : State) (x : Count32) : State := { s with nextSeq := x }
def State.setEngine (s : State) (x : Engine) : State := { s with engine := x }
def State.setWalkPos (s : State) (x : WalkPos) : State := { s with walkPos := x }
def State.setLastFired (s : State) (x : Bank (Option Count32) 128) : State := { s with lastFired := x }
def State.setLines (s : State) (x : Bank LineState 16) : State := { s with lines := x }
def State.setPorts (s : State) (x : PerPort PortState) : State := { s with ports := x }
def State.setGrant (s : State) (x : Option Port) : State := { s with grant := x }

/-- The state of one port. -/
def State.port (s : State) (p : Port) : PortState := s.ports.get p

/-- One port's state changed. -/
def State.setPort (s : State) (p : Port) (x : PortState) : State := s.setPorts (s.ports.set p x)

/-- The state of one line. -/
def State.line (s : State) (l : Line) : LineState := s.lines.get l

/-- One line's state changed. -/
def State.setLine (s : State) (l : Line) (x : LineState) : State := s.setLines (s.lines.set l x)

/-- What a slot holds. -/
def State.slot (s : State) (i : EntryId) : Option Entry := s.slots.get i

/-- What a slot holds, changed. -/
def State.setSlot (s : State) (i : EntryId) (x : Option Entry) : State := s.setSlots (s.slots.set i x)

/-! ### Time -/

/-- A channel as time moves on to tick `t`: once a sample has been taken after the tick it was set to await one, the
filtered level is the pin's (R5, R6). The sample of tick `t` itself is left to the commands of that tick. DESIGN CHOICE
(log entry 10): where no command takes the sample of a SET_TRACKER's own tick, that sample counts as taken before the
request, so the channel awaits through the tick after, whose sample sets the level and begins no hold. -/
def ChannelState.settle (c : ChannelState) (t : Nat) : ChannelState :=
  match c.filtered with
  | .awaiting since => if since + 1 < t then { c with filtered := .level c.pin } else c
  | .level _ => c

/-- The HOLD input as time moves on: the first sample after a reset sets its state without an assertion (R105). -/
def HoldInput.settle (h : HoldInput) (t : Nat) : HoldInput :=
  match h.awaiting with
  | some since => if since + 1 < t then { h with awaiting := none } else h
  | none => h

/-- Time moves on to the tick at which a command is taken. A command whose tick has passed is taken now (log entry
1). -/
def State.advanceTo (s : State) (t : Nat) : State :=
  let now := max s.now t
  { s with
    now := now
    markChannel := s.markChannel.settle now
    indexChannel := s.indexChannel.settle now
    hold := s.hold.settle now }

/-- Whether HOLD is asserted (R105): the pin is low. -/
def State.holdAsserted (s : State) : Bool := decide (s.hold.pin = .low)

/-- Whether lines may enter RUN as far as HOLD goes: sampled, and high (R103, R105). -/
def State.holdReleased (s : State) : Bool := decide (s.hold.pin = .high ∧ s.hold.awaiting = none)

/-! ### Posting records (R145) -/

/-- A record is posted to the ports chosen and arrives at each one's queue. -/
def State.post (s : State) (dest : Port → PortState → Bool) (r : Record) : State :=
  s.setPorts (s.ports.mapPort fun p ps => if dest p ps then ps.arrive r else ps)

/-- Every OPEN session that wants the record (its mask enables the kind). -/
def toOpen (want : PortState → Bool) (_ : Port) (ps : PortState) : Bool := ps.isOpen && want ps

/-- The owner named by the rule, if its session is OPEN or CLOSING. -/
def toOwner (p : Port) (q : Port) (ps : PortState) : Bool := decide (q = p) && !ps.isClosed

/-- Every OPEN session but the one that changed (R115). -/
def toPeers (p : Port) (q : Port) (ps : PortState) : Bool := decide (q ≠ p) && ps.isOpen

/-- A record with the phase count and cycle number as they stand (R146). -/
def State.recordNow (s : State) (x : Payload) : Record :=
  { phase := s.tracker.phase, cycle := s.tracker.cycle, payload := x }

/-- An element put into a list at a place. -/
def insertAt {α : Type} (k : Nat) (a : α) (l : List α) : List α := l.take k ++ a :: l.drop k

/-- A list in an order that the free values from draw `n` on decide (log entry 4). A list of one needs no draw. -/
def anyOrder {α : Type} (n : Nat) : List α → List α
  | [] => []
  | [a] => [a]
  | a :: b :: l => insertAt (Config.freePick n % (l.length + 2)) a (anyOrder (n + 1) (b :: l))

/-- Records addressed to one port whose rules set no order between them arrive in either order (R150). -/
def State.postUnordered (s : State) (p : Port) (rs : List Record) : State :=
  let s' := (anyOrder s.draws rs).foldl (fun st r => st.post (toOwner p) r) s
  s'.setDraws (s'.draws + rs.length)

/-! ### The Table Engine (R55, R56) -/

/-- The first port, counting onward from the one after the last served, that has a job waiting (R56). -/
def Engine.nextPort (e : Engine) : Option (Port × PortJob) :=
  (portsAfter e.lastServed).findSome? fun p => (e.waiting.get p).map fun j => (p, j)

/-- The engine chooses when it is idle and a job waits: the oldest internal job, else the next port's (R56). -/
def Engine.choose (e : Engine) (now draw : Nat) : Engine :=
  match e.service with
  | some _ => e
  | none =>
    match e.internal with
    | j :: rest => { e with internal := rest, service := some { job := .internal j, takenAt := now, draw := draw } }
    | [] =>
      match e.nextPort with
      | some (p, j) =>
        { e with waiting := e.waiting.set p none, lastServed := p,
                 service := some { job := .port p j, takenAt := now, draw := draw } }
      | none => e

/-- The choice made at this tick, with the next draw. -/
def State.chooseJob (s : State) : State :=
  { s with engine := s.engine.choose s.now s.draws, draws := s.draws + 1 }

/-- A job joins the port queue in the port's one place (R55). -/
def State.postPortJob (s : State) (p : Port) (j : PortJob) : State :=
  (s.setEngine { s.engine with waiting := s.engine.waiting.set p (some j) }).chooseJob

/-- A job joins the internal queue (R55). -/
def State.postInternalJob (s : State) (j : InternalJob) : State :=
  (s.setEngine { s.engine with internal := s.engine.internal ++ [j] }).chooseJob

/-- A port's waiting job is withdrawn; a job in service is not (R58). -/
def State.withdrawJob (s : State) (p : Port) : State :=
  s.setEngine { s.engine with waiting := s.engine.waiting.set p none }

/-! ### Entries -/

/-- The ids of the entries a port owns, in every status (R46). -/
def State.ownedIds (s : State) (p : Port) : List EntryId :=
  s.slots.indexed.filterMap fun x =>
    match x.2 with
    | some e => if e.owner = p then some x.1 else none
    | none => none

/-- The entry count of a port (R46). -/
def State.entryCount (s : State) (p : Port) : Nat := (s.ownedIds p).length

/-- The lowest-numbered empty slot (R46). -/
def State.lowestEmpty (s : State) : Option EntryId :=
  (s.slots.indexed.find? fun x => x.2.isNone).map (·.1)

/-- Whether an entry is a port's on a line. -/
def Entry.isOn (e : Entry) (p : Port) (l : Line) : Bool := decide (e.owner = p ∧ e.fields.line = l)

/-- The entries that satisfy a test leave their slots. -/
def State.removeEntries (s : State) (drop : Entry → Bool) : State :=
  s.setSlots (s.slots.map fun o => o.filter fun e => !drop e)

/-- How many entries satisfy a test. -/
def State.countEntries (s : State) (test : Entry → Bool) : Nat :=
  (s.slots.cells.filter fun o => o.any test).length

/-! ### Lines -/

/-- A pulse ends: INACTIVE and no pulse (R89). -/
def LineState.endPulse (l : LineState) : LineState := { l with active := false, pulse := .none }

/-- A line leaves for a mode that is not RUN: any pulse cancelled, INACTIVE (R95). -/
def LineState.leaveTo (l : LineState) (m : LineMode) : LineState :=
  { l with mode := m, active := false, pulse := .none }

/-- RUN goes to READY; every other mode stays (R104, R106). -/
def LineState.withdraw (l : LineState) : LineState :=
  match l.mode with
  | .run => l.leaveTo .ready
  | _ => l

/-- READY and RUN go to SAFE; every other mode stays (R98, R102, R108). -/
def LineState.makeSafe (l : LineState) : LineState :=
  match l.mode with
  | .ready => l.leaveTo .safe
  | .run => l.leaveTo .safe
  | _ => l

/-- READY enters RUN, INACTIVE and with no pulse; every other mode stays (R103). -/
def LineState.enterRun (l : LineState) : LineState :=
  match l.mode with
  | .ready => l.leaveTo .run
  | _ => l

/-- A port's waiting record leaves the list; the ones behind it move up (R97). -/
def LineState.dropWaiter (l : LineState) (p : Port) : LineState :=
  { l with waiting := l.waiting.filter fun w => decide (w.port ≠ p) }

/-- A line in the hands of a new owner: SAFE, with the owner's polarity and safe level (R96, R100). -/
def LineState.ownedBy (l : LineState) (p : Port) (pol : Polarity) (safe : Drive) : LineState :=
  { l with owner := some p, mode := .safe, polarity := pol, safeLevel := safe, active := false, pulse := .none }

/-- What the pin is driven to (Table 5-2). -/
def LineState.pin (l : LineState) : Drive :=
  match l.mode with
  | .released => .float
  | .safe => l.safeLevel
  | .ready => l.safeLevel
  | .run =>
    match l.active, l.polarity with
    | true, .activeHigh => .high
    | false, .activeHigh => .low
    | true, .activeLow => .low
    | false, .activeLow => .high

/-- Whether the pending pulse was set by this entry (R61, R95). -/
def Pulse.setBy (x : Pulse) (id : EntryId) (seq : Count32) : Bool :=
  match x with
  | .none => false
  | .phaseEnd i q _ _ => decide (i = id ∧ q = seq)
  | .timeEnd i q _ => decide (i = id ∧ q = seq)

/-- The place of a port in a waiting list, 1 to 3, or 0 when it does not wait (R123). -/
def placeOf (p : Port) (ws : List Waiter) : Nat :=
  match ws.findIdx? fun w => decide (w.port = p) with
  | some i => i + 1
  | none => 0

/-- A hand-over (R100): the line passes to its first waiter, with LINE_GRANTED, or becomes RELEASED. -/
def State.handOver (s : State) (l : Line) : State :=
  match (s.line l).waiting with
  | w :: ws =>
    let s' := s.setLine l { (s.line l).ownedBy w.port w.polarity w.safeLevel with waiting := ws }
    s'.post (toOwner w.port) (s'.recordNow (.lineGranted l))
  | [] => s.setLine l LineState.released

/-! ### Notices of the tracker -/

/-- ACTIVE goes back to PENDING, with its effective phase and flag kept (R50). -/
def Entry.demote (e : Entry) : Entry := if e.status = .active then { e with status := .pending } else e

/-- The notice of tracking ended: no walk position (R70), entries demoted (R50), lines withdrawn (R104). -/
def State.trackingEnded (s : State) : State :=
  ((s.setWalkPos .none).setSlots (s.slots.map fun o => o.map Entry.demote)).setLines
    (s.lines.map LineState.withdraw)

/-- A STATE record for a change of tracker state, with these phase and cycle values (R17). -/
def State.postState (s : State) (phase : Option Nat) (cycle : Count32) (old new : TrackerState)
    (cause : StateCause) : State :=
  s.post (toOpen fun ps => ps.mask.state) { phase := phase, cycle := cycle, payload := .state old new cause }

/-- What every clearing of the tracker does: the ring, E and the reference go, the position and the phase become
undefined, the index-pending flag clears (R13, R19, R20, R40). -/
def Tracker.cleared (t : Tracker) (st : TrackerState) : Tracker :=
  { t with state := st, ring := [], estimate := 0, reference := none, markPos := none, indexPending := false,
           phase := none }

/-- Entry to LOST from LOCKED or COASTING (R40). -/
def State.loseTracking (s : State) (cause : StateCause) : State :=
  let old := s.tracker.state
  let s' := (s.setTracker (s.tracker.cleared .lost)).trackingEnded
  s'.postState none s'.tracker.cycle old .lost cause

/-! ### Replies and admission -/

/-- A reply to a frame taken in an IDLE slot (R139, R140). -/
def State.reply (s : State) (p : Port) (tag : Tag) (status : Status) (body : List Byte) : State :=
  s.setPort p ((s.port p).passToDone tag status body)

/-- A long request admitted: the slot WORKING and the register PENDING (R141). -/
def State.beginLong (s : State) (p : Port) (r : LongRequest) (tag : Tag) : State :=
  s.setPort p { (s.port p).passToPending tag with slot := .working r tag }

/-- The work of a long request completes: DONE and IDLE together. A slot that a teardown has taken over keeps its
register, and the reply is lost (R132, R136, R141). -/
def State.finishLong (s : State) (p : Port) (r : LongRequest) (status : Status) (body : List Byte) : State :=
  match (s.port p).slot with
  | .working r' tag =>
    if r' = r then s.setPort p { (s.port p).passToDone tag status body with slot := .idle } else s
  | _ => s

/-- The notice that the port is alive restarts a running silence timer (R116, R130). -/
def State.aliveNotice (s : State) (p : Port) : State :=
  match (s.port p).session with
  | .opened limit _ => s.setPort p { s.port p with session := .opened limit s.now }
  | _ => s

/-- The release of select: the transaction is over, with this count of complete bytes (R128, R129). -/
def State.endTransaction (s : State) (p : Port) (received : Nat) : State :=
  s.setPort p { s.port p with transaction := .none, received := received }

/-- The release of a select that was asserted through a RESET: nothing was counted, and nothing is taken (R129,
R142). -/
def State.endIgnored (s : State) (p : Port) : State := s.endTransaction p (s.port p).received

/-- A valid frame is taken at tick `t`: the transaction ends, the alive notice is given, and what the frame asks
happens if the slot is IDLE; a WORKING slot discards it as busy (R128, R130, R133). A select that was asserted through
a RESET ends no transaction (R129, R142). -/
def State.takeFrame (s : State) (t : Nat) (p : Port) (act : State → State) : State :=
  let s := s.advanceTo t
  match (s.port p).transaction with
  | .ignored => s.endIgnored p
  | _ =>
    let s := (s.endTransaction p 64).aliveNotice p
    match (s.port p).slot with
    | .idle => act s
    | _ => s

/-- What a request needs at admission (Table 7-3). -/
structure Needs where
  session : Bool := true
  grant : Bool := false
  tracker : TrackerState → Bool := fun _ => true

/-- The admission checks of R139 from the session on, in their order; the first that fails gives the reply, with an
empty body. `args` is the body read by the request's parser. -/
def State.admission {α : Type} (s : State) (p : Port) (tag rsv : Tag) (needs : Needs) (args : Option α)
    (act : α → State → State) : State :=
  if needs.session ∧ (s.port p).isOpen = false then s.reply p tag .noSession []
  else if needs.grant ∧ s.grant ≠ some p then s.reply p tag .notGranted []
  else if needs.tracker s.tracker.state = false then s.reply p tag .wrongState []
  else if rsv ≠ 0 then s.reply p tag .badArg []
  else
    match args with
    | none => s.reply p tag .badArg []
    | some a => act a s

/-! ### The reply frame (R137, Table 9-6) -/

/-- The tag, state code, status byte, epoch and body a register shows (R137). -/
def Reply.shown : Reply → Tag × Nat × Byte × Byte × List Byte
  | .empty => (0, 0, 0, 0, [])
  | .pending tag epoch => (tag, 1, 0, epoch, [])
  | .done tag status body epoch => (tag, 2, status.code, epoch, body)

/-- The 64 bytes of the reply frame formed from a port's register and latched causes (R137, R161). -/
def PortState.replyFrame (ps : PortState) : List Byte :=
  let (tag, st, status, epoch, body) := ps.reply.shown
  let covered :=
    BitVec.ofNat 8 (tag.toNat + 16 * st) :: status :: epoch :: ps.attention.latched.byte ::
      BitVec.ofNat 8 body.length :: body
  padded (covered ++ [crc8 covered])

end Sys2Proof.Machine
end

