-- ==== Sys2Proof/Machine/Events.lean ====
section
/-! DEFINITION. The requests to the Event Queues and the Attention Logic (8.2, 8.4, 8.6): the meanings of READ_EVENTS,
SET_EVENT_MASK, SET_ATTENTION and ACK_ATTENTION. -/

namespace Sys2Proof.Machine

/-- The oldest records removed: one change of depth, where there is one (R151, R153). -/
def PortState.removeOldest (ps : PortState) (n : Nat) : PortState :=
  let rest := ps.queue.drop n
  { ps with
    queue := rest
    attention := if rest.length = ps.queue.length then ps.attention else ps.attention.atDepth rest.length }

/-- The body of READ_EVENTS: the records removed, oldest first, and the remaining depth (Table 9-8). -/
def PortState.eventsBody (ps : PortState) (n : Nat) : List Byte :=
  BitVec.ofNat 8 (ps.queue.take n).length ::
    ((ps.queue.take n).flatMap EventRecord.bytes ++ [BitVec.ofNat 8 (ps.queue.drop n).length])

/-- The settings of SET_ATTENTION: all replaced at once, the WATERMARK condition re-evaluated without an edge, every
latch left (R156). -/
def PortState.setAttention (ps : PortState) (a : AttentionArgs) : PortState :=
  { ps with
    attention :=
      { ps.attention with
        enables := a.enables, watermarkEdge := a.watermarkEdge, nonemptyEdge := a.nonemptyEdge,
        watermark := a.watermark, watermarkHolds := decide (a.watermark ≤ ps.queue.length) } }

/-- Latches cleared (R157). -/
def PortState.acknowledge (ps : PortState) (c : CauseSet) : PortState :=
  { ps with attention := { ps.attention with latched := ps.attention.latched.without c } }

/-- The body of SET_ATTENTION, as its request body (Table 9-8). -/
def AttentionArgs.bytes (a : AttentionArgs) : List Byte :=
  [a.enables.byte, BitVec.ofNat 8 (edgeCode a.watermarkEdge + 4 * edgeCode a.nonemptyEdge),
   BitVec.ofNat 8 a.watermark]

/-- READ_EVENTS (R151). -/
def execReadEvents (t : Nat) (p : Port) (tag rsv : Tag) (body : List Byte) (s : State) :
    Host.Outcome State Fault Refusal :=
  .next <| s.takeFrame t p fun s =>
    s.admission p tag rsv {} (parseCount body) fun n s =>
      (s.setPort p ((s.port p).removeOldest n)).reply p tag .ok ((s.port p).eventsBody n)

/-- SET_EVENT_MASK (R147). -/
def execSetEventMask (t : Nat) (p : Port) (tag rsv : Tag) (body : List Byte) (s : State) :
    Host.Outcome State Fault Refusal :=
  .next <| s.takeFrame t p fun s =>
    s.admission p tag rsv {} (parseEventMask body) fun a s =>
      (s.setPort p { s.port p with mask := a.1, interval := a.2 }).reply p tag .ok
        [a.1.byte, BitVec.ofNat 8 a.2]

/-- SET_ATTENTION (R156). -/
def execSetAttention (t : Nat) (p : Port) (tag rsv : Tag) (body : List Byte) (s : State) :
    Host.Outcome State Fault Refusal :=
  .next <| s.takeFrame t p fun s =>
    s.admission p tag rsv {} (parseAttention body) fun a s =>
      (s.setPort p ((s.port p).setAttention a)).reply p tag .ok a.bytes

/-- ACK_ATTENTION (R157): the passage into DONE latches REPLY first, and the clearing is then applied. -/
def execAckAttention (t : Nat) (p : Port) (tag rsv : Tag) (body : List Byte) (s : State) :
    Host.Outcome State Fault Refusal :=
  .next <| s.takeFrame t p fun s =>
    s.admission p tag rsv {} (parseAck body) fun c s =>
      let after := ((s.port p).attention.latched.union { CauseSet.empty with reply := true }).without c
      let s := s.reply p tag .ok [after.byte]
      s.setPort p ((s.port p).acknowledge c)

end Sys2Proof.Machine
end

