-- ==== Sys2Proof/Machine/Walker.lean ====
section
/-! DEFINITION. The Cam Walker (chapter 4): the walk order, the firing of one entry, the walk of an advance, the cut of
an ALIGN slip, and the boundary the table, the lines, the walker and the queues take together (R33). -/

namespace Sys2Proof.Machine

/-! ### The walk order (R54) -/

/-- The ACTIVE entries of the table, by slot. -/
def State.activeEntries (s : State) : List (EntryId × Entry) :=
  s.slots.indexed.filterMap fun x =>
    match x.2 with
    | some e => if e.status = .active then some (x.1, e) else none
    | none => none

/-- Whether one (slot, entry) pair stands no later than another in the walk. -/
def walkPairLE (x y : EntryId × Entry) : Bool :=
  decide (x.2.effective < y.2.effective ∨
    (x.2.effective = y.2.effective ∧
      (x.2.fields.trigger < y.2.fields.trigger ∨
        (x.2.fields.trigger = y.2.fields.trigger ∧ x.2.seq.toNat ≤ y.2.seq.toNat))))

/-- The walk order of the ACTIVE entries (R54). -/
def State.walkOrder (s : State) : List (EntryId × Entry) :=
  s.activeEntries.insertionSort fun x y => walkPairLE x y = true

/-- The ids of the ACTIVE entries at a phase, in walk order (R72). -/
def State.firingsAt (s : State) (phase : Nat) : List EntryId :=
  (s.walkOrder.filter fun x => decide (x.2.effective = phase)).map (·.1)

/-! ### Firing (4.4 to 4.6) -/

/-- The cycle filter against a cycle number (R79). -/
def CycleFilter.passes (f : CycleFilter) (cycle : Count32) : Bool :=
  match f with
  | .every => true
  | .nth n off => decide (cycle.toNat % n = off)
  | .once => true

/-- The pulse a PULSE firing sets: a PHASE end at effective phase plus width, in this cycle or the next (R87); a TIME
end at the firing tick plus width (R88). -/
def Entry.pulseSet (e : Entry) (id : EntryId) (kind : WidthKind) (width : Nat) (cycle : Count32) (now : Nat) :
    Pulse :=
  match kind with
  | .phase =>
    if e.effective + width ≤ Config.lastPhase then .phaseEnd id e.seq (e.effective + width) cycle
    else .phaseEnd id e.seq (e.effective + width - Config.phaseCounts) (cycle + 1)
  | .time => .timeEnd id e.seq (now + width)

/-- The effect of a firing on its RUN line (Table 4-2, R84 to R86). -/
def Entry.actOn (e : Entry) (id : EntryId) (cycle : Count32) (now : Nat) (l : LineState) : LineState :=
  match e.fields.action with
  | .set => { l with active := true, pulse := .none }
  | .clear => { l with active := false, pulse := .none }
  | .pulse kind width => { l with active := true, pulse := e.pulseSet id kind width cycle now }

/-- Whether an entry reached by the walker fires (R78). -/
def State.fires (s : State) (id : EntryId) (e : Entry) (cycle : Count32) : Bool :=
  decide (e.status = .active) && decide ((s.line e.fields.line).mode = .run) && e.fields.filter.passes cycle &&
    decide (s.lastFired.get id ≠ some cycle)

/-- The FIRED record of a firing: the phase at the end of the advance and the current cycle number (R91). -/
def Entry.firedRecord (e : Entry) (id : EntryId) (cycle : Count32) (phase : Nat) : Record :=
  { phase := some phase, cycle := cycle,
    payload := .fired id e.fields.line e.fields.label (decide (e.fields.filter = .once)) }

/-- A firing: the last-fired record, the action, FIRED where due, and the notice that makes a ONCE entry SPENT and
posts its spent removal (R51, R78, R91, R92). -/
def State.fireEntry (s : State) (id : EntryId) (e : Entry) (cycle : Count32) (phase : Nat) : State :=
  let s := s.setLastFired (s.lastFired.set id (some cycle))
  let s := s.setLine e.fields.line (e.actOn id cycle s.now (s.line e.fields.line))
  let s :=
    if e.fields.notify = true ∨ e.fields.filter = .once then
      s.post (toOwner e.owner) (e.firedRecord id cycle phase)
    else s
  if e.fields.filter = .once then
    (s.setSlot id (some { e with status := .spent })).postInternalJob (.spentRemoval id e.seq)
  else s

/-- The walker reaches a slot: its entry fires, or is passed with no effect (R78, R81). -/
def State.reach (s : State) (cycle : Count32) (phase : Nat) (id : EntryId) : State :=
  match s.slot id with
  | some e => if s.fires id e cycle then s.fireEntry id e cycle phase else s
  | none => s

/-! ### Walking an advance (4.2) -/

/-- The end phase of a line's PHASE pulse, if it is set for this cycle. -/
def LineState.endIn (l : LineState) (cycle : Count32) : Option Nat :=
  match l.pulse with
  | .phaseEnd _ _ ph c => if c = cycle then some ph else none
  | _ => none

/-- Every PHASE pulse end due at a phase of this cycle is taken (R89). -/
def State.takePulseEnds (s : State) (cycle : Count32) (phase : Nat) : State :=
  s.setLines (s.lines.map fun l => if l.endIn cycle = some phase then l.endPulse else l)

/-- One phase of an advance that ends at `last`: pulse ends first, then firings in walk order (R72). -/
def State.takePhase (s : State) (cycle : Count32) (last phase : Nat) : State :=
  let s := s.takePulseEnds cycle phase
  (s.firingsAt phase).foldl (fun st id => st.reach cycle last id) s

/-- The phase at which something is due next, from `lo` to `hi`: a pulse end of this cycle or an ACTIVE entry. -/
def State.nextDue (s : State) (cycle : Count32) (lo hi : Nat) : Option Nat :=
  ((s.lines.cells.filterMap (·.endIn cycle) ++ s.activeEntries.map (·.2.effective)).filter
    fun ph => decide (lo ≤ ph ∧ ph ≤ hi)).min?

/-- Everything due from phase `lo` to `hi`, in ascending phase (R71, R72). The fuel counts phases. -/
def State.walk (cycle : Count32) (hi : Nat) : (fuel lo : Nat) → State → State
  | 0, _, s => s
  | fuel + 1, lo, s =>
    match s.nextDue cycle lo hi with
    | none => s
    | some ph => State.walk cycle hi fuel (ph + 1) (s.takePhase cycle hi ph)

/-- The first phase the walker has not taken. -/
def WalkPos.next : WalkPos → Option Nat
  | .none => Option.none
  | .before0 => some 0
  | .reached ph => some (ph + 1)

/-- An advance to a phase of a cycle (R71): everything due above the walk position up to it, and the walk position
there. With no walk position the walker takes no advance (R70). -/
def State.advanceWalk (s : State) (cycle : Count32) (hi : Nat) : State :=
  match s.walkPos.next with
  | none => s
  | some lo => (State.walk cycle hi (hi + 1 - lo) lo s).setWalkPos (.reached hi)

/-! ### Boundaries (4.3, R33) -/

/-- Whether a phase lies above the walk position, in the cut part of an ALIGN slip. -/
def WalkPos.below (w : WalkPos) (phase : Nat) : Bool :=
  match w.next with
  | .none => false
  | .some lo => decide (lo ≤ phase)

/-- The cut of an ALIGN slip: the old cycle's pulse ends above the walk position are taken (R76 step 1). -/
def State.cutPulses (s : State) (oldCycle : Count32) : State :=
  s.setLines (s.lines.map fun l =>
    match l.endIn oldCycle with
    | some ph => if s.walkPos.below ph then l.endPulse else l
    | none => l)

/-- The entries an ALIGN slip drops (R76 step 2). -/
def State.droppedCount (s : State) : Nat :=
  (s.activeEntries.filter fun x => s.walkPos.below x.2.effective).length

/-- ceil(lead × 4096 / P) (R52). -/
def leadCounts (lead period : Nat) : Nat := (lead * Config.phaseCounts + (period - 1)) / period

/-- PENDING becomes ACTIVE (R49). -/
def Entry.promote (e : Entry) : Entry := if e.status = .pending then { e with status := .active } else e

/-- The effective phase and lead-clamped flag of an ACTIVE entry computed with a period (R52). -/
def Entry.compute (period : Nat) (e : Entry) : Entry :=
  if e.status = .active then
    if e.fields.trigger < leadCounts e.fields.lead period then { e with effective := 0, clamped := true }
    else { e with effective := e.fields.trigger - leadCounts e.fields.lead period, clamped := false }
  else e

/-- What a boundary does to an entry (R49, R52). -/
def Entry.atBoundary (period : Nat) (e : Entry) : Entry := e.promote.compute period

/-- The LEAD_LIMIT records of a boundary for one port: its entries whose flag turns from no to yes (R53). -/
def State.leadLimits (s : State) (period : Nat) (p : Port) : List Payload :=
  s.slots.indexed.filterMap fun x =>
    match x.2 with
    | some e =>
      if e.owner = p ∧ e.clamped = false ∧ (e.atBoundary period).clamped = true then
        some (.leadLimit x.1 e.fields.line e.fields.label)
      else none
    | none => none

/-- The CYCLE record due to a port, if one is (R148). -/
def PortState.cycleRecords (ps : PortState) (cycle : Count32) : List Payload :=
  if ps.isOpen = true ∧ ps.interval ≠ 0 ∧ cycle.toNat % ps.interval = 0 then [.cycle] else []

/-- The SLIP record due to a port, if the boundary is an ALIGN slip and the mask lets it through (R36). -/
def PortState.slipRecords (ps : PortState) (slip : Option (Nat × Nat)) : List Payload :=
  match slip with
  | some (k, dropped) => if ps.isOpen = true ∧ ps.mask.slip = true then [.slip k dropped] else []
  | none => []

/-- The records of the boundary itself to one port; their rules set no order between them (R150). -/
def State.boundaryRecords (s : State) (period : Nat) (cycle : Count32) (phase : Nat) (slip : Option (Nat × Nat))
    (p : Port) : List Record :=
  ((s.port p).slipRecords slip ++ s.leadLimits period p ++ (s.port p).cycleRecords cycle).map fun x =>
    { phase := some phase, cycle := cycle, payload := x }

/-- The second part of a boundary: promotion and effective phases (R49, R52), READY lines into RUN (R103), the walk
position before 0 (R75, R77), and the records (R36, R53, R148). It carries the new cycle number, the phase after the
boundary and P. -/
def State.takeBoundary (s : State) (period : Nat) (cycle : Count32) (phase : Nat) (slip : Option (Nat × Nat)) :
    State :=
  let recs := s.boundaryRecords period cycle phase slip
  let s := s.setSlots (s.slots.map fun o => o.map (Entry.atBoundary period))
  let s := if s.holdReleased then s.setLines (s.lines.map LineState.enterRun) else s
  let s := s.setWalkPos .before0
  allPorts.foldl (fun st p => st.postUnordered p (recs p)) s

end Sys2Proof.Machine
end

