-- ==== Sys2Proof/Machine/Lines.lean ====
section
/-! DEFINITION. The Line Drivers (chapter 5): the meanings of CLAIM_LINE, RELEASE_LINE, SET_LINE_MODE, READ_LINES,
PULSE_TIMER_EXPIRY, HOLD_ASSERTION and HOLD_DEASSERTION. -/

namespace Sys2Proof.Machine

/-- What CLAIM_LINE makes of a line, with its status and place (the table of R96). -/
def LineState.claim (l : LineState) (p : Port) (a : ClaimArgs) : LineState × Status × Nat :=
  match l.owner with
  | none => (l.ownedBy p a.polarity a.safeLevel, .ok, 0)
  | some q =>
    if q = p then (l, .already, 0)
    else if placeOf p l.waiting ≠ 0 then (l, .already, placeOf p l.waiting)
    else if a.wait = true ∧ l.waiting.length < 3 then
      ({ l with waiting := l.waiting ++ [{ port := p, polarity := a.polarity, safeLevel := a.safeLevel }] },
        .queued, l.waiting.length + 1)
    else (l, .lineTaken, 0)

/-- What SET_LINE_MODE makes of its owner's line: RUN asks for READY (the table of R102). -/
def LineState.requestMode (l : LineState) (run : Bool) : LineState × Status :=
  match run, l.mode with
  | true, .safe => ({ l with mode := .ready }, .ok)
  | true, _ => (l, .already)
  | false, .ready => (l.makeSafe, .ok)
  | false, .run => (l.makeSafe, .ok)
  | false, _ => (l, .already)

/-- The two bytes of a line in READ_LINES (Table 9-8). -/
def LineState.shownBytes (l : LineState) : List Byte :=
  [optPortByte l.owner, BitVec.ofNat 8 (l.mode.code + 4 * l.pin.code + 16 * l.waiting.length)]

/-- The body of READ_LINES (R110, Table 9-8). -/
def State.linesBody (s : State) : List Byte :=
  s.lines.cells.flatMap LineState.shownBytes ++ [flagByte s.holdAsserted]

/-- A HOLD record to every OPEN session (R106, R107). -/
def State.postHold (s : State) (on : Bool) : State := s.post (toOpen fun _ => true) (s.recordNow (.hold on))

/-- CLAIM_LINE (R96). -/
def execClaimLine (t : Nat) (p : Port) (tag rsv : Tag) (body : List Byte) (s : State) :
    Host.Outcome State Fault Refusal :=
  .next <| s.takeFrame t p fun s =>
    s.admission p tag rsv {} (parseClaim body) fun a s =>
      let (l, status, place) := (s.line a.line).claim p a
      (s.setLine a.line l).reply p tag status [BitVec.ofNat 8 place]

/-- RELEASE_LINE: long from the owner (R98), immediate from a waiter, NOT_OWNER from any other port (R99). -/
def execReleaseLine (t : Nat) (p : Port) (tag rsv : Tag) (body : List Byte) (s : State) :
    Host.Outcome State Fault Refusal :=
  .next <| s.takeFrame t p fun s =>
    s.admission p tag rsv {} (parseLineBody body) fun l s =>
      if (s.line l).owner = some p then
        ((s.setLine l (s.line l).makeSafe).beginLong p .releaseLine tag).postPortJob p (.releaseDeletion l)
      else if placeOf p (s.line l).waiting ≠ 0 then
        (s.setLine l ((s.line l).dropWaiter p)).reply p tag .ok []
      else s.reply p tag .notOwner []

/-- SET_LINE_MODE (R102). -/
def execSetLineMode (t : Nat) (p : Port) (tag rsv : Tag) (body : List Byte) (s : State) :
    Host.Outcome State Fault Refusal :=
  .next <| s.takeFrame t p fun s =>
    s.admission p tag rsv {} (parseLineMode body) fun a s =>
      if (s.line a.1).owner = some p then
        let (l, status) := (s.line a.1).requestMode a.2
        (s.setLine a.1 l).reply p tag status [BitVec.ofNat 8 l.mode.code]
      else s.reply p tag .notOwner []

/-- READ_LINES (R110). -/
def execReadLines (t : Nat) (p : Port) (tag rsv : Tag) (body : List Byte) (s : State) :
    Host.Outcome State Fault Refusal :=
  .next <| s.takeFrame t p fun s =>
    s.admission p tag rsv {} (parseNothing body) fun _ s => s.reply p tag .ok s.linesBody

/-- Whether a line's pulse timer has expired (R88, R89). -/
def LineState.timerDue (l : LineState) (now : Nat) : Bool :=
  match l.pulse with
  | .timeEnd _ _ expires => decide (expires ≤ now)
  | _ => false

/-- PULSE_TIMER_EXPIRY (R89). -/
def execPulseTimerExpiry (t : Nat) (l : Line) (s : State) : Host.Outcome State Fault Refusal :=
  let s := s.advanceTo t
  .next (if (s.line l).timerDue s.now then s.setLine l (s.line l).endPulse else s)

/-- The HOLD pin sampled at this level at this tick, and the change of level it shows, if the sample is still to be taken
and shows one. The first sample after a reset shows none (R105). -/
def HoldInput.sample (h : HoldInput) (level : Level) (now : Nat) : HoldInput × Option Level :=
  if h.sampled = some now ∨ (h.awaiting = none ∧ h.pin = level) then (h, none)
  else ({ pin := level, awaiting := none, sampled := some now }, if h.awaiting = none then some level else none)

/-- HOLD_ASSERTION (R105, R106). -/
def execHoldAssertion (t : Nat) (s : State) : Host.Outcome State Fault Refusal :=
  let s := s.advanceTo t
  .next <|
    match s.hold.sample .low s.now with
    | (h, some _) => ((s.setHold h).setLines (s.lines.map LineState.withdraw)).postHold true
    | (h, none) => s.setHold h

/-- HOLD_DEASSERTION (R105, R107): the record, and no line changes. -/
def execHoldDeassertion (t : Nat) (s : State) : Host.Outcome State Fault Refusal :=
  let s := s.advanceTo t
  .next <|
    match s.hold.sample .high s.now with
    | (h, some _) => (s.setHold h).postHold false
    | (h, none) => s.setHold h

end Sys2Proof.Machine
end

