-- ==== Sys2Proof/Machine/Link.lean ====
section
/-! DEFINITION. The Port Units and reset (chapter 7): the meanings of RESET, TRANSACTION_START, FRAME_ERROR, NOP and
UNKNOWN_REQUEST_CODE. -/

namespace Sys2Proof.Machine

/-- What a RESET makes of a port's transaction: a select that is asserted through it is ignored until released
(R129, R142). -/
def Transaction.throughReset : Transaction → Transaction
  | .none => .none
  | .inProgress _ => .ignored
  | .ignored => .ignored

/-- RESET (R142 and the reset rules R6, R16, R43, R68, R69, R105, R111, R127, R152, R158): every block at its reset
values, every transaction, job and teardown abandoned. The commands that wait are the model's own and stay. -/
def execReset (t : Nat) (mark index hold : Level) (s : State) : Host.Outcome State Fault Refusal :=
  let r := State.resetAt (max s.now t) mark index hold
  .next
    { r with
      draws := s.draws
      pending := s.pending
      ports := r.ports.mapPort fun p ps => { ps with transaction := (s.port p).transaction.throughReset } }

/-- What the port drives on its data output after `clocked` falling edges of the serial clock (R128, R129): the captured
frame, most significant bit first, and zero bytes past the 64th while a transaction is in progress, and high impedance
while select is released or was asserted through a RESET. -/
def PortState.dataOut (ps : PortState) (clocked : Nat) : Drive :=
  match ps.transaction with
  | .inProgress captured =>
    if (captured.getD (clocked / 8) 0).getLsbD (7 - clocked % 8) then .high else .low
  | .none => .float
  | .ignored => .float

/-- TRANSACTION_START (R128, R137): the reply frame is captured and the count of bytes starts at 0. A select that is
asserted already is not asserted again. -/
def execTransactionStart (t : Nat) (p : Port) (s : State) : Host.Outcome State Fault Refusal :=
  let s := s.advanceTo t
  .next <|
    match (s.port p).transaction with
    | .none => s.setPort p { s.port p with transaction := .inProgress (s.port p).replyFrame, received := 0 }
    | _ => s

/-- FRAME_ERROR (R129, R131), with the complete bytes received, of which those past the 64th are ignored: no alive
notice; FRAME_REJECT with the received tag in an IDLE slot, discarded in a
WORKING one. -/
def execFrameError (t : Nat) (p : Port) (bytes : List Byte) (s : State) : Host.Outcome State Fault Refusal :=
  let s := s.advanceTo t
  .next <|
    match (s.port p).transaction, (s.port p).slot with
    | .ignored, _ => s.endIgnored p
    | _, .idle => (s.endTransaction p (min 64 bytes.length)).reply p (receivedTag bytes) .frameReject []
    | _, _ => s.endTransaction p (min 64 bytes.length)

/-- NOP (R138): the alive notice, and nothing else. -/
def execNop (t : Nat) (p : Port) (s : State) : Host.Outcome State Fault Refusal :=
  .next (s.takeFrame t p id)

/-- UNKNOWN_REQUEST_CODE: BAD_CODE at the first admission check, whatever else is wrong (R139). -/
def execUnknownRequestCode (t : Nat) (p : Port) (tag _rsv : Tag) (_code : Byte) (_body : List Byte) (s : State) :
    Host.Outcome State Fault Refusal :=
  .next (s.takeFrame t p fun s => s.reply p tag .badCode [])

end Sys2Proof.Machine
end

