-- ==== Sys2Proof/Machine/Sessions.lean ====
section
/-! DEFINITION. The Session Controller (chapter 6): sessions, teardowns, the setup grant and quotas, and the meanings of
OPEN_SESSION, CLOSE_SESSION, READ_SESSION, REQUEST_GRANT, RELEASE_GRANT, SET_QUOTA and SILENCE_EXPIRY. -/

namespace Sys2Proof.Machine

/-- The epoch after an open: one more, wrapping from 255 to 1 (R113). -/
def nextEpoch (e : Byte) : Byte := if e = 255 then 1 else e + 1

/-- A PEER record to every other OPEN session (R115). -/
def State.postPeer (s : State) (p : Port) (closed : Option TeardownCause) : State :=
  s.post (toPeers p) (s.recordNow (.peer p closed))

/-- An OPEN_SESSION of a port whose session is CLOSED (R114): the reply carries the new epoch, part code and
revision. -/
def State.openSession (s : State) (p : Port) (tag : Tag) (limit : Nat) : State :=
  let epoch := nextEpoch (s.port p).epoch
  let s := s.setPort p
    { s.port p with session := .opened limit s.now, epoch := epoch, mask := EventMask.atOpen, interval := 0 }
  (s.postPeer p none).reply p tag .ok (epoch :: (leBytes 2 Config.partCode ++ [BitVec.ofNat 8 Config.revision]))

/-- The slot and register at the beginning of a teardown by silence (R119 step 2). -/
def PortState.takeSlot (ps : PortState) : PortState :=
  match ps.slot with
  | .idle => { ps.passToPending 0 with slot := .teardown 0 }
  | .working _ tag => { ps with slot := .teardown tag }
  | .teardown _ => ps

/-- The Line Drivers at the notice of teardown begun (R108). -/
def LineState.teardownBegun (p : Port) (l : LineState) : LineState :=
  (if l.owner = some p then l.makeSafe else l).dropWaiter p

/-- Steps 3 to 5 of R119, and the withdrawal of the port's waiting job (R58). -/
def State.beginTeardown (s : State) (p : Port) : State :=
  let s := s.withdrawJob p
  let s := s.setLines (s.lines.map (LineState.teardownBegun p))
  let s := if s.grant = some p then s.setGrant none else s
  s.postInternalJob (.sweep p)

/-- The session made CLOSING; its silence timer stops (R119 step 1). -/
def PortState.makeClosing (ps : PortState) (cause : TeardownCause) : PortState :=
  match ps.session with
  | .opened limit _ => { ps with session := .closing limit cause }
  | _ => ps

/-- A teardown with cause CLOSED: the slot holds the CLOSE_SESSION (R118, R119). -/
def State.closeSession (s : State) (p : Port) (tag : Tag) : State :=
  let s := s.beginLong p .closeSession tag
  (s.setPort p ((s.port p).makeClosing .closed)).beginTeardown p

/-- A teardown with cause SILENCE (R117, R119). -/
def State.silenceTeardown (s : State) (p : Port) : State :=
  (s.setPort p ((s.port p).makeClosing .silence).takeSlot).beginTeardown p

/-- Whether a port's silence timer has reached its limit, 1,000 ticks a millisecond (R116, R117). -/
def State.silenceDue (s : State) (p : Port) : Bool :=
  match (s.port p).session with
  | .opened limit start => decide (limit * 1000 ≤ s.now - start)
  | _ => false

/-- A number whose digits in base `2 ^ w` are these, line 0 lowest. -/
def packDigits (base : Nat) : List Nat → Nat
  | [] => 0
  | d :: ds => d + base * packDigits base ds

/-- The body of READ_SESSION for a port with this session state (R123, Table 9-8). -/
def State.sessionBody (s : State) (p : Port) : List Byte :=
  let ps := s.port p
  let limit := match ps.session with
    | .opened limit _ => limit
    | .closing limit _ => limit
    | .closed => 0
  [1, ps.epoch] ++ leBytes 2 limit ++ [BitVec.ofNat 8 ps.quota, BitVec.ofNat 8 (s.entryCount p)] ++
    leBytes 2 (packDigits 2 (s.lines.cells.map fun l => (decide (l.owner = some p)).toNat)) ++
    leBytes 4 (packDigits 4 (s.lines.cells.map fun l => placeOf p l.waiting)) ++
    [flagByte (decide (s.grant = some p)), optPortByte s.grant,
     BitVec.ofNat 8 (packDigits 2 (allPorts.map fun q => (s.port q).isOpen.toNat))]

/-- OPEN_SESSION (R114). -/
def execOpenSession (t : Nat) (p : Port) (tag rsv : Tag) (body : List Byte) (s : State) :
    Host.Outcome State Fault Refusal :=
  .next <| s.takeFrame t p fun s =>
    s.admission p tag rsv { session := false } (parseOpenSession body) fun limit s =>
      if (s.port p).isClosed then s.openSession p tag limit else s.reply p tag .already []

/-- CLOSE_SESSION (R118). -/
def execCloseSession (t : Nat) (p : Port) (tag rsv : Tag) (body : List Byte) (s : State) :
    Host.Outcome State Fault Refusal :=
  .next <| s.takeFrame t p fun s =>
    s.admission p tag rsv {} (parseNothing body) fun _ s => s.closeSession p tag

/-- READ_SESSION (R123). -/
def execReadSession (t : Nat) (p : Port) (tag rsv : Tag) (body : List Byte) (s : State) :
    Host.Outcome State Fault Refusal :=
  .next <| s.takeFrame t p fun s =>
    s.admission p tag rsv {} (parseNothing body) fun _ s => s.reply p tag .ok (s.sessionBody p)

/-- REQUEST_GRANT (R124). -/
def execRequestGrant (t : Nat) (p : Port) (tag rsv : Tag) (body : List Byte) (s : State) :
    Host.Outcome State Fault Refusal :=
  .next <| s.takeFrame t p fun s =>
    s.admission p tag rsv {} (parseNothing body) fun _ s =>
      match s.grant with
      | none => (s.setGrant (some p)).reply p tag .ok [optPortByte (some p)]
      | some q => s.reply p tag (if q = p then .already else .grantHeld) [optPortByte (some q)]

/-- RELEASE_GRANT (R125). -/
def execReleaseGrant (t : Nat) (p : Port) (tag rsv : Tag) (body : List Byte) (s : State) :
    Host.Outcome State Fault Refusal :=
  .next <| s.takeFrame t p fun s =>
    s.admission p tag rsv {} (parseNothing body) fun _ s =>
      if s.grant = some p then (s.setGrant none).reply p tag .ok [] else s.reply p tag .notGranted []

/-- SET_QUOTA (R126). -/
def execSetQuota (t : Nat) (p : Port) (tag rsv : Tag) (body : List Byte) (s : State) :
    Host.Outcome State Fault Refusal :=
  .next <| s.takeFrame t p fun s =>
    s.admission p tag rsv { grant := true } (parseSetQuota body) fun a s =>
      (s.setPort a.1 { s.port a.1 with quota := a.2 }).reply p tag .ok
        [BitVec.ofNat 8 (portCode a.1), BitVec.ofNat 8 a.2, BitVec.ofNat 8 (s.entryCount a.1)]

/-- SILENCE_EXPIRY (R117). -/
def execSilenceExpiry (t : Nat) (p : Port) (s : State) : Host.Outcome State Fault Refusal :=
  let s := s.advanceTo t
  .next (if s.silenceDue p then s.silenceTeardown p else s)

end Sys2Proof.Machine
end

