-- ==== Sys2Proof/Machine/Table.lean ====
section
/-! DEFINITION. The Cam Table and the Table Engine (chapter 3): the meanings of INSERT_ENTRY, DELETE_ENTRY,
CLEAR_LINE_ENTRIES, READ_ENTRY and LIST_ENTRIES, and of the six completions of jobs. -/

namespace Sys2Proof.Machine

/-! ### Requests -/

/-- INSERT_ENTRY (R45, R59). -/
def execInsertEntry (t : Nat) (p : Port) (tag rsv : Tag) (body : List Byte) (s : State) :
    Host.Outcome State Fault Refusal :=
  .next <| s.takeFrame t p fun s =>
    s.admission p tag rsv {} (parseEntry body) fun f s =>
      if (s.line f.line).owner = some p then
        (s.beginLong p .insertEntry tag).postPortJob p (.insertion f)
      else s.reply p tag .notOwner []

/-- DELETE_ENTRY (R61). -/
def execDeleteEntry (t : Nat) (p : Port) (tag rsv : Tag) (body : List Byte) (s : State) :
    Host.Outcome State Fault Refusal :=
  .next <| s.takeFrame t p fun s =>
    s.admission p tag rsv {} (parseIdBody body) fun id s =>
      (s.beginLong p .deleteEntry tag).postPortJob p (.entryDeletion id)

/-- CLEAR_LINE_ENTRIES (R62). -/
def execClearLineEntries (t : Nat) (p : Port) (tag rsv : Tag) (body : List Byte) (s : State) :
    Host.Outcome State Fault Refusal :=
  .next <| s.takeFrame t p fun s =>
    s.admission p tag rsv {} (parseLineBody body) fun l s =>
      if (s.line l).owner = some p then
        (s.beginLong p .clearLineEntries tag).postPortJob p (.lineClear l)
      else s.reply p tag .notOwner []

/-- The body of READ_ENTRY (R66, Table 9-8). -/
def Entry.body (e : Entry) (id : EntryId) : List Byte :=
  [BitVec.ofNat 8 id.val, BitVec.ofNat 8 (portCode e.owner)] ++ e.fields.bytes ++ [e.status.code] ++
    leBytes 4 e.seq.toNat ++ leBytes 2 e.effective ++ [flagByte e.clamped]

/-- READ_ENTRY (R66). -/
def execReadEntry (t : Nat) (p : Port) (tag rsv : Tag) (body : List Byte) (s : State) :
    Host.Outcome State Fault Refusal :=
  .next <| s.takeFrame t p fun s =>
    s.admission p tag rsv {} (parseIdBody body) fun id s =>
      match s.slot id with
      | none => s.reply p tag .noEntry []
      | some e => if e.owner = p then s.reply p tag .ok (e.body id) else s.reply p tag .notOwner []

/-- A port's entries from an id on, in ascending id order (R67). -/
def State.ownedFrom (s : State) (p : Port) (start : EntryId) : List (EntryId × EntryStatus) :=
  s.slots.indexed.filterMap fun x =>
    match x.2 with
    | some e => if e.owner = p ∧ start ≤ x.1 then some (x.1, e.status) else none
    | none => none

/-- The body of LIST_ENTRIES: up to 16 pairs and the more flag (R67, Table 9-8). -/
def listBody (xs : List (EntryId × EntryStatus)) : List Byte :=
  [BitVec.ofNat 8 (xs.take 16).length, flagByte (decide (16 < xs.length))] ++
    (xs.take 16).flatMap fun x => [BitVec.ofNat 8 x.1.val, x.2.code]

/-- LIST_ENTRIES (R67). -/
def execListEntries (t : Nat) (p : Port) (tag rsv : Tag) (body : List Byte) (s : State) :
    Host.Outcome State Fault Refusal :=
  .next <| s.takeFrame t p fun s =>
    s.admission p tag rsv {} (parseIdBody body) fun start s => s.reply p tag .ok (listBody (s.ownedFrom p start))

/-! ### Completions -/

/-- A job in service may complete from the tick after it was taken on (R57). -/
def State.ripeJob (s : State) : Option Job :=
  match s.engine.service with
  | some v => if v.takenAt < s.now then some v.job else none
  | none => none

/-- The job in service is done: the engine is free, the effect takes place, and the engine chooses again (R56, R57). -/
def State.completeJob (s : State) (effect : State → State) : State :=
  (effect (s.setEngine { s.engine with service := none })).chooseJob

/-- A new entry at its creation (R48, R60). -/
def newEntry (p : Port) (f : EntryFields) (seq : Count32) : Entry :=
  { owner := p, fields := f, status := .pending, seq := seq, effective := f.trigger, clamped := false }

/-- The effect of an insertion (R47, R48, R60, R69). -/
def State.insert (s : State) (p : Port) (f : EntryFields) : State :=
  if (s.port p).quota ≤ s.entryCount p then s.finishLong p .insertEntry .quota []
  else
    match s.lowestEmpty with
    | none => s.finishLong p .insertEntry .tableFull []
    | some id =>
      (((s.setSlot id (some (newEntry p f s.nextSeq))).setNextSeq (s.nextSeq + 1)).setLastFired
        (s.lastFired.set id none)).finishLong p .insertEntry .ok
          (BitVec.ofNat 8 id.val :: leBytes 4 s.nextSeq.toNat)

/-- The pulse an entry set on its line ends with the entry's removal (R61, R95). -/
def State.endPulseOf (s : State) (id : EntryId) (e : Entry) : State :=
  if (s.line e.fields.line).pulse.setBy id e.seq then s.setLine e.fields.line (s.line e.fields.line).endPulse else s

/-- The effect of an entry deletion (R61). -/
def State.deleteEntry (s : State) (p : Port) (id : EntryId) : State :=
  match s.slot id with
  | none => s.finishLong p .deleteEntry .noEntry []
  | some e =>
    if e.owner = p then ((s.setSlot id none).endPulseOf id e).finishLong p .deleteEntry .ok [e.status.code]
    else s.finishLong p .deleteEntry .notOwner []

/-- Whether the pulse pending on a line was set by an entry of a port on that line, by id and sequence (R61, R95). -/
def State.pulseIsOf (s : State) (p : Port) (l : Line) : Bool :=
  s.slots.indexed.any fun x => x.2.any fun e => e.isOn p l && (s.line l).pulse.setBy x.1 e.seq

/-- The effect of a line clear: the port's entries on the line go, and with them, as R61 describes, the pulse that one of
them set (R62, R95). A pulse whose entry has left the table before is left as it stands (R95; log entry 16). -/
def State.clearLine (s : State) (p : Port) (l : Line) : State :=
  let n := s.countEntries fun e => e.isOn p l
  let s' := s.removeEntries fun e => e.isOn p l
  let s' := if s.pulseIsOf p l then s'.setLine l (s'.line l).endPulse else s'
  s'.finishLong p .clearLineEntries .ok [BitVec.ofNat 8 n]

/-- The effect of a release deletion: the entries go, the line is handed over, the release is answered (R63, R100). -/
def State.releaseLine (s : State) (p : Port) (l : Line) : State :=
  let n := s.countEntries fun e => e.isOn p l
  let s := (s.removeEntries fun e => e.isOn p l).handOver l
  s.finishLong p .releaseLine .ok [BitVec.ofNat 8 n, optPortByte (s.line l).owner]

/-- The lines a port owns, in ascending order (R109). -/
def State.ownedLines (s : State) (p : Port) : List Line :=
  s.lines.indexed.filterMap fun x => if x.2.owner = some p then some x.1 else none

/-- The tag of a slot held for a teardown: the CLOSE_SESSION's, or the one R119 gave it. -/
def Slot.tag : Slot → Tag
  | .idle => 0
  | .working _ tag => tag
  | .teardown tag => tag

/-- The status of a teardown's reply (R122). -/
def TeardownCause.status : TeardownCause → Status
  | .closed => .ok
  | .silence => .noSession

/-- Steps 2 to 4 of R121 at the port: queue and latches cleared, session CLOSED. -/
def PortState.closeDown (ps : PortState) : PortState :=
  let ps := ps.clearQueue
  { ps with attention := { ps.attention with latched := CauseSet.empty }, session := .closed }

/-- The completion of a teardown (R121, R122), when the port's session is CLOSING. -/
def State.finishTeardown (s : State) (p : Port) : State :=
  match (s.port p).session with
  | .closing _ cause =>
    let s := (s.ownedLines p).foldl State.handOver s
    let s := s.setPort p (s.port p).closeDown
    let s := s.postPeer p (some cause)
    s.setPort p { (s.port p).passToDone (s.port p).slot.tag cause.status [] with slot := .idle }
  | _ => s

/-- The effect of a teardown sweep (R64). -/
def State.sweep (s : State) (p : Port) : State :=
  (s.removeEntries fun e => decide (e.owner = p)).finishTeardown p

/-- The effect of a spent removal (R65). -/
def State.removeSpent (s : State) (id : EntryId) (seq : Count32) : State :=
  match s.slot id with
  | some e => if e.seq = seq ∧ e.status = .spent then s.setSlot id none else s
  | none => s

/-- INSERTION_COMPLETES (R60). -/
def execInsertionCompletes (t : Nat) (s : State) : Host.Outcome State Fault Refusal :=
  let s := s.advanceTo t
  .next <|
    match s.ripeJob with
    | some (.port p (.insertion f)) => s.completeJob fun s => s.insert p f
    | _ => s

/-- ENTRY_DELETION_COMPLETES (R61). -/
def execEntryDeletionCompletes (t : Nat) (s : State) : Host.Outcome State Fault Refusal :=
  let s := s.advanceTo t
  .next <|
    match s.ripeJob with
    | some (.port p (.entryDeletion id)) => s.completeJob fun s => s.deleteEntry p id
    | _ => s

/-- LINE_CLEAR_COMPLETES (R62). -/
def execLineClearCompletes (t : Nat) (s : State) : Host.Outcome State Fault Refusal :=
  let s := s.advanceTo t
  .next <|
    match s.ripeJob with
    | some (.port p (.lineClear l)) => s.completeJob fun s => s.clearLine p l
    | _ => s

/-- RELEASE_DELETION_COMPLETES (R63, R100). -/
def execReleaseDeletionCompletes (t : Nat) (s : State) : Host.Outcome State Fault Refusal :=
  let s := s.advanceTo t
  .next <|
    match s.ripeJob with
    | some (.port p (.releaseDeletion l)) => s.completeJob fun s => s.releaseLine p l
    | _ => s

/-- TEARDOWN_SWEEP_COMPLETES (R64, R121, R122). -/
def execTeardownSweepCompletes (t : Nat) (s : State) : Host.Outcome State Fault Refusal :=
  let s := s.advanceTo t
  .next <|
    match s.ripeJob with
    | some (.internal (.sweep p)) => s.completeJob fun s => s.sweep p
    | _ => s

/-- SPENT_REMOVAL_COMPLETES (R65). -/
def execSpentRemovalCompletes (t : Nat) (s : State) : Host.Outcome State Fault Refusal :=
  let s := s.advanceTo t
  .next <|
    match s.ripeJob with
    | some (.internal (.spentRemoval id seq)) => s.completeJob fun s => s.removeSpent id seq
    | _ => s

end Sys2Proof.Machine
end

