-- ==== Sys2Proof/Machine/Conditioner.lean ====
section
/-! DEFINITION. The Mark Conditioner (1.1): what a channel recognises and delivers, and the meanings of
UNSELECTED_TRANSITION and CONDITIONER_HOLD_ABANDONED. A command that takes a channel's sample of its tick finds it
untaken; each tick has one (log entry 26). -/

namespace Sys2Proof.Machine

/-- The other level. -/
def flipLevel : Level → Level
  | .low => .high
  | .high => .low

/-- The direction of a transition to a level (R1). -/
def edgeTo : Level → Edge
  | .low => .falling
  | .high => .rising

/-- A channel's state. -/
def State.channel (s : State) : Channel → ChannelState
  | .mark => s.markChannel
  | .index => s.indexChannel

/-- A channel's state, changed. -/
def State.setChannel (s : State) (ch : Channel) (c : ChannelState) : State :=
  match ch with
  | .mark => s.setMarkChannel c
  | .index => s.setIndexChannel c

/-- The filter length F of a channel (Table 1-1). -/
def TrackerConfig.filterLength (c : TrackerConfig) : Channel → Nat
  | .mark => c.markFilter
  | .index => c.indexFilter

/-- Whether a channel delivers a recognised transition of this direction (R3). -/
def TrackerConfig.delivers (c : TrackerConfig) (ch : Channel) (e : Edge) : Bool :=
  match ch with
  | .mark => decide (e = c.markEdge)
  | .index => c.indexUse && decide (e = c.indexEdge)

/-- The transition a channel recognises with the sample of this tick, if that sample is still to be taken and shows the
new level: its direction and its recorded time. A hold in progress for F ticks completes; with F = 0 a hold begins and
completes at the same sample (R1). -/
def ChannelState.recognised (c : ChannelState) (f now : Nat) : Option (Edge × Nat) :=
  if c.sampled = some now then none
  else
    match c.filtered with
    | .awaiting _ => none
    | .level l =>
      match c.hold with
      | some n => if n + f ≤ now then some (edgeTo (flipLevel l), n) else none
      | none => if f = 0 then some (edgeTo (flipLevel l), now) else none

/-- The filtered level takes the new level of this tick's sample and the hold is over (R1). -/
def ChannelState.complete (c : ChannelState) (now : Nat) : ChannelState :=
  match c.filtered with
  | .awaiting _ => c
  | .level l => { pin := flipLevel l, filtered := .level (flipLevel l), hold := none, sampled := some now }

/-- The transition a channel recognises at this tick. -/
def State.recognised (s : State) (ch : Channel) : Option (Edge × Nat) :=
  (s.channel ch).recognised (s.tracker.config.filterLength ch) s.now

/-- The recorded time of the edge a channel delivers at this tick, if it delivers one (R3, R4). -/
def State.delivered (s : State) (ch : Channel) : Option Nat :=
  match s.recognised ch with
  | some (e, n) => if s.tracker.config.delivers ch e then some n else none
  | none => none

/-- The channel completes its hold. -/
def State.completeHold (s : State) (ch : Channel) : State := s.setChannel ch ((s.channel ch).complete s.now)

/-- Whether this tick's sample is one at which a hold can begin: it is still to be taken, no hold is in progress, and it
differs from the filtered level (R1). -/
def ChannelState.canBegin (c : ChannelState) (sample : Level) (now : Nat) : Bool :=
  match c.filtered with
  | .awaiting _ => false
  | .level l => decide (c.sampled ≠ some now ∧ c.hold = none ∧ sample ≠ l)

/-- This tick's sample, with F not 0: one that differs from the filtered level begins a hold (R1); the first after a
reset or a SET_TRACKER becomes the filtered level (R5, R6). -/
def ChannelState.begin (c : ChannelState) (sample : Level) (now : Nat) : ChannelState :=
  match c.filtered with
  | .awaiting _ =>
    if c.sampled = some now then c
    else { pin := sample, filtered := .level sample, hold := none, sampled := some now }
  | .level _ => if c.canBegin sample now then { c with pin := sample, hold := some now, sampled := some now } else c

/-- A sample equal to the filtered level while a hold is in progress, no later than the tick at which it would be
complete, abandons the hold (R1, R2). -/
def ChannelState.abandon (c : ChannelState) (f now : Nat) : ChannelState :=
  match c.filtered with
  | .awaiting _ => c
  | .level l =>
    match c.hold with
    | some n =>
      if now ≤ n + f ∧ c.sampled ≠ some now then
        { pin := l, filtered := .level l, hold := none, sampled := some now }
      else c
    | none => c

/-- Any hold is abandoned and the filtered level awaits the next sample (R5). -/
def ChannelState.restart (c : ChannelState) (now : Nat) : ChannelState :=
  { c with filtered := .awaiting now, hold := none }

/-- UNSELECTED_TRANSITION (R3): the filtered level follows, and nothing else has effect. -/
def execUnselectedTransition (t : Nat) (ch : Channel) (s : State) : Host.Outcome State Fault Refusal :=
  let s := s.advanceTo t
  .next <|
    match s.recognised ch with
    | some (e, _) => if s.tracker.config.delivers ch e then s else s.completeHold ch
    | none => s

/-- CONDITIONER_HOLD_ABANDONED (R2). -/
def execConditionerHoldAbandoned (t : Nat) (ch : Channel) (s : State) : Host.Outcome State Fault Refusal :=
  let s := s.advanceTo t
  .next (s.setChannel ch ((s.channel ch).abandon (s.tracker.config.filterLength ch) s.now))

end Sys2Proof.Machine
end

