-- ==== Sys2Proof/Machine/Tracking.lean ====
section
/-! DEFINITION. The Phase Tracker's events (chapters 1 and 2): the history ring and E, the phase count, marks in every
state, the index check and the boundaries it raises, and the meanings of MARK, INDEX_EDGE, CONDITIONER_HOLD_BEGINS (which
hands on an edge where F is 0), NO_MARK_LIMIT, LATE_TIMEOUT and PHASE_RISE. -/

namespace Sys2Proof.Machine

/-! ### The history ring and E (1.3, 1.4) -/

/-- An interval enters the ring at the newest end; of more than 8 the oldest leaves (R8). -/
def pushRing (ring : List Nat) (t : Nat) : List Nat := (ring ++ [t]).drop (ring.length + 1 - 8)

/-- The floor of the mean of the newest D intervals, or of all when there are fewer (R14). -/
def meanNewest (d : Nat) (ring : List Nat) : Nat :=
  let newest := ring.drop (ring.length - d)
  newest.sum / newest.length

/-- An interval enters the ring and E is recomputed (R9, R14). -/
def Tracker.enter (t : Tracker) (interval : Nat) : Tracker :=
  let ring := pushRing t.ring interval
  { t with ring := ring, estimate := meanNewest t.config.avgDepth ring }

/-- The range of a genuine interval (R8). -/
def genuineRange (interval : Nat) : Bool := decide (1 ≤ interval ∧ interval ≤ Config.maxInterval)

/-- The elapsed time from the reference to a time, 0 when the time does not lie after it (R7). -/
def Tracker.elapsed (t : Tracker) (time : Nat) : Nat :=
  match t.reference with
  | some r => time - r.time
  | none => 0

/-! ### Spans, bounds and the phase count -/

/-- The phase distance between consecutive marks. -/
def TrackerConfig.span (c : TrackerConfig) : Nat := Config.phaseCounts / c.marks

/-- P = E × M (R14). -/
def Tracker.period (t : Tracker) : Nat := t.estimate * t.config.marks

/-- floor(E × (16 − EARLY)/16) (R24). -/
def Tracker.earlyBound (t : Tracker) : Nat := t.estimate * (16 - t.config.early) / 16

/-- floor(E × (16 + LATE)/16) (R26). -/
def Tracker.lateBound (t : Tracker) : Nat := t.estimate * (16 + t.config.late) / 16

/-- LOCKED or COASTING, the states in which the phase is valid (Table 2-1). -/
def TrackerState.tracks : TrackerState → Bool
  | .locked => true
  | .coasting => true
  | _ => false

/-- The phase count of R29 at a tick. -/
def Tracker.phaseAt (t : Tracker) (now : Nat) : Nat :=
  let span := t.config.span
  t.markPos.getD 0 * span + min (t.elapsed now * span / t.estimate) (span - 1)

/-! ### Marks in ACQUIRING (2.3) -/

/-- What a mark does to the ring and E in ACQUIRING (R10). -/
def Tracker.acquireInterval (t : Tracker) (recorded : Nat) : Tracker :=
  match t.reference with
  | none => t
  | some r =>
    if Config.maxInterval < recorded - r.time then { t with ring := [], estimate := 0 }
    else if recorded - r.time = 0 then t
    else t.enter (recorded - r.time)

/-- The position a mark is given in ACQUIRING (the table of R21). -/
def Tracker.acquirePosition (t : Tracker) : Option Nat :=
  if t.indexPending then some 0
  else
    match t.markPos with
    | none => if t.config.indexUse then none else some 0
    | some p => if p + 1 < t.config.marks then some (p + 1) else some 0

/-- A mark taken in ACQUIRING: interval, reference, position and flags (R10, R21). -/
def Tracker.acquire (t : Tracker) (recorded : Nat) : Tracker :=
  let pos := t.acquirePosition
  { t.acquireInterval recorded with
    reference := some { time := recorded, kind := .genuine }
    markPos := pos
    indexPending := false
    indexSeen := t.indexSeen && decide (pos ≠ some 0) }

/-- Whether acquisition is complete (R23). -/
def Tracker.lockReady (t : Tracker) : Bool := decide (t.config.avgDepth ≤ t.ring.length) && t.markPos.isSome

/-- The lock: LOCKED, the phase valid, the walker at it, and STATE (R23, R31, R70). -/
def State.lock (s : State) : State :=
  let ph := s.tracker.phaseAt s.now
  ((s.setTracker { s.tracker with state := .locked, coast := 0, phase := some ph }).setWalkPos
    (.reached ph)).postState (some ph) s.tracker.cycle .acquiring .locked .lock

/-- A mark in ACQUIRING (R10, R21, R23). -/
def State.acquireMark (s : State) (recorded : Nat) : State :=
  let s := s.setTracker (s.tracker.acquire recorded)
  if s.tracker.lockReady then s.lock else s

/-- A mark in LOST begins reacquisition under AUTO_REACQUIRE ON, and is ignored otherwise (R41). -/
def State.reacquireMark (s : State) (recorded : Nat) : State :=
  if s.tracker.config.autoReacquire then
    let s := s.setTracker
      { s.tracker.cleared .acquiring with coast := 0, missed := 0, indexSeen := false }
    (s.postState none s.tracker.cycle .lost .acquiring .auto).acquireMark recorded
  else s

/-! ### Accepted marks and substitutions (2.4, 2.6, 2.7) -/

/-- What the position of an accepted or substituted mark comes to. -/
inductive Advance where
  /-- position `pos`, no boundary -/
  | plain (pos : Nat)
  /-- a slip of offset `k` under REPORT: the mark keeps position `k` -/
  | reported (k : Nat)
  /-- a slip of offset `k` under ALIGN: position 0 and a boundary -/
  | aligned (k : Nat)
  /-- a natural wrap; the missed-index count after it, and whether INDEX_MISSED 1 is posted -/
  | wrapped (missed : Nat) (report : Bool)
  /-- a natural wrap that is the second in a row with no index seen: tracking is lost -/
  | lost
  deriving DecidableEq, Repr

/-- The position by the ordinary advance (R25 step 3, R26 step 4). -/
def Tracker.nextPosition (t : Tracker) : Nat :=
  match t.markPos with
  | some p => if p + 1 < t.config.marks then p + 1 else 0
  | none => 0

/-- The index check (R35 to R37) and the missed-index rule (R38) of the next position. -/
def Tracker.advance (t : Tracker) : Advance :=
  if t.nextPosition = 0 then
    if t.config.indexUse = false then .wrapped t.missed false
    else if t.indexSeen then .wrapped 0 false
    else if t.missed = 0 then .wrapped 1 true
    else .lost
  else if t.indexPending then
    match t.config.slipPolicy with
    | .align => .aligned t.nextPosition
    | .report => .reported t.nextPosition
  else .plain t.nextPosition

/-- The STATE record of step 5 of R25 or step 2 of R26, if the state changed. -/
def State.postChange (s : State) (old new : TrackerState) (cause : StateCause) : State :=
  if old = new then s else s.postState s.tracker.phase s.tracker.cycle old new cause

/-- A mark that raises no boundary: position and phase, then the walker's advance (R30). `k` is the slip of REPORT, whose
record carries the phase of before the mark, as it stands at the index check (R25 step 6, R26 step 5; log entry 25). -/
def State.stepPosition (s : State) (new : TrackerState) (cause : StateCause) (pos : Nat) (slip : Option Nat) :
    State :=
  let old := s.tracker
  let t := { old with state := new, markPos := some pos, indexPending := false }
  let ph := t.phaseAt s.now
  let s := (s.setTracker { t with phase := some ph }).postChange old.state new cause
  let s :=
    match slip with
    | some k =>
      s.post (toOpen fun ps => ps.mask.slip) { phase := old.phase, cycle := old.cycle, payload := .slip k 0 }
    | none => s
  s.advanceWalk s.tracker.cycle ph

/-- A mark that raises a boundary (R32, R33): `wrap` is the natural wrap's missed-index count and record, or the offset
of an ALIGN slip. -/
def State.stepBoundary (s : State) (new : TrackerState) (cause : StateCause) (missed : Nat) (report : Bool)
    (align : Option Nat) : State :=
  let old := s.tracker.state
  let oldCycle := s.tracker.cycle
  let cycle := oldCycle + 1
  let t := { s.tracker with state := new, markPos := some 0, indexPending := false, indexSeen := false,
                            missed := missed, cycle := cycle }
  let ph := t.phaseAt s.now
  let s := (s.setTracker { t with phase := some ph }).postChange old new cause
  let s :=
    if report then s.post (toOpen fun ps => ps.mask.indexMissed) (s.recordNow (.indexMissed missed)) else s
  let s :=
    match align with
    | none => (s.advanceWalk oldCycle Config.lastPhase).takeBoundary t.period cycle ph none
    | some k => (s.cutPulses oldCycle).takeBoundary t.period cycle ph (some (k, s.droppedCount))
  s.advanceWalk cycle ph

/-- A losing wrap (R38): INDEX_MISSED 2, then LOST with cause INDEX, and no advance. -/
def State.stepLost (s : State) : State :=
  let s := s.setTracker { s.tracker with missed := 2, indexPending := false }
  (s.post (toOpen fun ps => ps.mask.indexMissed)
    { phase := none, cycle := s.tracker.cycle, payload := .indexMissed 2 }).loseTracking .index

/-- The steps of R25 from 3 on, or of R26 from 4 on, for a mark whose ring, reference and coast count are in place. -/
def State.stepMark (s : State) (new : TrackerState) (cause : StateCause) : State :=
  match s.tracker.advance with
  | .plain pos => s.stepPosition new cause pos none
  | .reported k => s.stepPosition new cause k (some k)
  | .aligned k => s.stepBoundary new cause 0 false (some k)
  | .wrapped missed report => s.stepBoundary new cause missed report none
  | .lost => s.stepLost

/-- The ring, reference and coast count after an accepted mark (R12, R25 steps 1, 2 and 4). -/
def Tracker.accept (t : Tracker) (recorded : Nat) : Tracker :=
  let interval := t.elapsed recorded
  let genuine := match t.reference with
    | some r => decide (r.kind = .genuine)
    | none => false
  let t' := if genuine = true ∧ genuineRange interval = true then t.enter interval else t
  { t' with reference := some { time := recorded, kind := .genuine }, coast := 0 }

/-- A mark in LOCKED or COASTING, judged against the window (R24, R25). A mark at or before the reference (t = 0) is
rejected also where the early bound is 0, as R24 says of it (log entry 24). -/
def State.judgeMark (s : State) (recorded : Nat) : State :=
  if s.tracker.elapsed recorded = 0 ∨ s.tracker.elapsed recorded < s.tracker.earlyBound then
    s.post (toOpen fun ps => ps.mask.markRejected) (s.recordNow (.markRejected (s.tracker.elapsed recorded)))
  else (s.setTracker (s.tracker.accept recorded)).stepMark .locked .relock

/-- A mark reaches the tracker (R4, R10, R24, R25, R41). -/
def State.takeMark (s : State) (recorded : Nat) : State :=
  match s.tracker.state with
  | .stopped => s
  | .acquiring => s.acquireMark recorded
  | .locked => s.judgeMark recorded
  | .coasting => s.judgeMark recorded
  | .lost => s.reacquireMark recorded

/-- An index edge reaches the tracker: both flags in ACQUIRING, LOCKED and COASTING (R22, R34), nothing in STOPPED (R4)
and LOST (R41). -/
def State.takeIndex (s : State) : State :=
  match s.tracker.state with
  | .stopped => s
  | .lost => s
  | _ => s.setTracker { s.tracker with indexSeen := true, indexPending := true }

/-- The reference and coast count after a substitution (R26 steps 1 and 3). -/
def Tracker.substitute (t : Tracker) : Tracker :=
  { t with
    coast := t.coast + 1
    reference := t.reference.map fun r => { time := r.time + t.estimate, kind := .nominal } }

/-- The substitution of R26; MARK_SUBSTITUTED last, and not at a losing wrap (R38). -/
def State.substituteMark (s : State) : State :=
  let coast := s.tracker.coast + 1
  let lost := match s.tracker.substitute.advance with
    | .lost => true
    | _ => false
  let s := (s.setTracker s.tracker.substitute).stepMark .coasting .coast
  if lost then s
  else s.post (toOpen fun ps => ps.mask.markSubstituted) (s.recordNow (.markSubstituted coast))

/-- Whether the no-mark limit is reached at this tick (R11). -/
def State.noMarkLimitDue (s : State) : Bool :=
  decide (s.tracker.state = .acquiring) && s.tracker.reference.isSome &&
    decide (Config.noMarkLimit ≤ s.tracker.elapsed s.now)

/-- Whether the late timeout is due at this tick (R26). -/
def State.lateTimeoutDue (s : State) : Bool :=
  s.tracker.state.tracks && s.tracker.reference.isSome && decide (s.tracker.lateBound ≤ s.tracker.elapsed s.now)

/-- Whether the phase count rises at this tick (R29, R30). -/
def State.phaseRises (s : State) : Bool :=
  s.tracker.state.tracks &&
    (match s.tracker.phase with
     | some ph => decide (ph < s.tracker.phaseAt s.now)
     | none => false)

/-! ### The meanings -/

/-- MARK (R1, R4, R10, R12, R24, R25, R41): the MARK channel's hold completes and the mark is handed to the tracker
with the tick at which the hold began. With no mark to recognise nothing happens (log entry 7). -/
def execMark (t : Nat) (s : State) : Host.Outcome State Fault Refusal :=
  let s := s.advanceTo t
  .next <|
    match s.delivered .mark with
    | some recorded => (s.completeHold .mark).takeMark recorded
    | none => s

/-- An edge that a channel delivers reaches the tracker (R4). -/
def State.takeEdge (s : State) (ch : Channel) (recorded : Nat) : State :=
  match ch with
  | .mark => s.takeMark recorded
  | .index => s.takeIndex

/-- The channel's hold completes with this tick's sample, and the edge it delivers, if it delivers one, is handed on
(R1, R3, R4). -/
def State.recognise (s : State) (ch : Channel) : State :=
  match s.delivered ch with
  | some recorded => (s.completeHold ch).takeEdge ch recorded
  | none => s.completeHold ch

/-- CONDITIONER_HOLD_BEGINS (R1): a hold begins, and with F = 0 it completes at the same sample. -/
def execConditionerHoldBegins (t : Nat) (ch : Channel) (sample : Level) (s : State) :
    Host.Outcome State Fault Refusal :=
  let s := s.advanceTo t
  .next <|
    if s.tracker.config.filterLength ch = 0 ∧ (s.channel ch).canBegin sample s.now = true then s.recognise ch
    else s.setChannel ch ((s.channel ch).begin sample s.now)

/-- INDEX_EDGE (R4, R22, R34, R41). -/
def execIndexEdge (t : Nat) (s : State) : Host.Outcome State Fault Refusal :=
  let s := s.advanceTo t
  .next <|
    match s.delivered .index with
    | some _ => (s.completeHold .index).takeIndex
    | none => s

/-- NO_MARK_LIMIT (R11). -/
def execNoMarkLimit (t : Nat) (s : State) : Host.Outcome State Fault Refusal :=
  let s := s.advanceTo t
  .next <|
    if s.noMarkLimitDue then s.setTracker { s.tracker with ring := [], estimate := 0, reference := none } else s

/-- LATE_TIMEOUT (R26, R27). -/
def execLateTimeout (t : Nat) (s : State) : Host.Outcome State Fault Refusal :=
  let s := s.advanceTo t
  .next <|
    if s.lateTimeoutDue then
      if s.tracker.coast < s.tracker.config.coastLimit then s.substituteMark else s.loseTracking .limit
    else s

/-- PHASE_RISE (R29, R30). -/
def execPhaseRise (t : Nat) (s : State) : Host.Outcome State Fault Refusal :=
  let s := s.advanceTo t
  .next <|
    if s.phaseRises then
      (s.setTracker { s.tracker with phase := some (s.tracker.phaseAt s.now) }).advanceWalk s.tracker.cycle
        (s.tracker.phaseAt s.now)
    else s

end Sys2Proof.Machine
end

