-- ==== Sys2Proof/Machine/TrackerRequests.lean ====
section
/-! DEFINITION. The requests to the Phase Tracker (2.2, 2.9, 1.5): the meanings of SET_TRACKER, START_TRACKER,
STOP_TRACKER, READ_TRACKER and READ_HISTORY. -/

namespace Sys2Proof.Machine

/-- SET_TRACKER needs the grant and a STOPPED tracker (R18, R139). -/
def needsForSet : Needs := { grant := true, tracker := fun st => decide (st = .stopped) }

/-- START_TRACKER needs the grant and a tracker STOPPED or LOST (R19, R139). -/
def needsForStart : Needs := { grant := true, tracker := fun st => decide (st = .stopped ∨ st = .lost) }

/-- Acquisition begins (R19). -/
def State.startTracker (s : State) : State :=
  let old := s.tracker.state
  let s := s.setTracker
    { s.tracker.cleared .acquiring with cycle := 0, coast := 0, missed := 0, indexSeen := false }
  s.postState none 0 old .acquiring .start

/-- Tracking ends from any state but STOPPED (R20). -/
def State.stopTracker (s : State) : State :=
  let old := s.tracker.state
  let s := s.setTracker { s.tracker.cleared .stopped with coast := 0, missed := 0, indexSeen := false }
  let s := if old.tracks then s.trackingEnded else s
  s.postState none s.tracker.cycle old .stopped .stop

/-- The body of READ_TRACKER (R42, Table 9-8). -/
def Tracker.body (t : Tracker) : List Byte :=
  [t.state.code, flagByte t.phase.isSome] ++ leBytes 2 (t.phase.getD 0) ++
    [BitVec.ofNat 8 (t.markPos.getD 0xFF)] ++ leBytes 4 t.cycle.toNat ++ leBytes 4 t.estimate ++
    leBytes 4 t.period ++ [BitVec.ofNat 8 t.coast, BitVec.ofNat 8 t.missed, flagByte t.indexSeen]

/-- The body of READ_HISTORY (R15, Table 9-8). -/
def Tracker.historyBody (t : Tracker) : List Byte :=
  BitVec.ofNat 8 t.ring.length :: (t.ring.flatMap (leBytes 4) ++ leBytes 4 t.estimate ++
    [BitVec.ofNat 8 t.config.avgDepth])

/-- SET_TRACKER (R5, R18): the record replaced, both channels restarted. -/
def execSetTracker (t : Nat) (p : Port) (tag rsv : Tag) (body : List Byte) (s : State) :
    Host.Outcome State Fault Refusal :=
  .next <| s.takeFrame t p fun s =>
    s.admission p tag rsv needsForSet (parseTrackerConfig body) fun c s =>
      (((s.setTracker { s.tracker with config := c }).setMarkChannel (s.markChannel.restart s.now)).setIndexChannel
        (s.indexChannel.restart s.now)).reply p tag .ok []

/-- START_TRACKER (R19). -/
def execStartTracker (t : Nat) (p : Port) (tag rsv : Tag) (body : List Byte) (s : State) :
    Host.Outcome State Fault Refusal :=
  .next <| s.takeFrame t p fun s =>
    s.admission p tag rsv needsForStart (parseNothing body) fun _ s => s.startTracker.reply p tag .ok []

/-- STOP_TRACKER (R20). -/
def execStopTracker (t : Nat) (p : Port) (tag rsv : Tag) (body : List Byte) (s : State) :
    Host.Outcome State Fault Refusal :=
  .next <| s.takeFrame t p fun s =>
    s.admission p tag rsv { grant := true } (parseNothing body) fun _ s =>
      (if s.tracker.state = .stopped then s else s.stopTracker).reply p tag .ok []

/-- READ_TRACKER (R42). -/
def execReadTracker (t : Nat) (p : Port) (tag rsv : Tag) (body : List Byte) (s : State) :
    Host.Outcome State Fault Refusal :=
  .next <| s.takeFrame t p fun s =>
    s.admission p tag rsv {} (parseNothing body) fun _ s => s.reply p tag .ok s.tracker.body

/-- READ_HISTORY (R15). -/
def execReadHistory (t : Nat) (p : Port) (tag rsv : Tag) (body : List Byte) (s : State) :
    Host.Outcome State Fault Refusal :=
  .next <| s.takeFrame t p fun s =>
    s.admission p tag rsv {} (parseNothing body) fun _ s => s.reply p tag .ok s.tracker.historyBody

end Sys2Proof.Machine
end

