-- ==== Sys2Proof/Machine/Dispatch.lean ====
section
/-! DEFINITION. One arm for every command of the table: a direct call of its meaning. -/

namespace Sys2Proof.Machine

def exec (i : Instr) (s : State) : Host.Outcome State Fault Refusal :=
  match i with
  | .reset t mark index hold => Sys2Proof.Machine.execReset t mark index hold s
  | .transactionStart t p => Sys2Proof.Machine.execTransactionStart t p s
  | .frameError t p bytes => Sys2Proof.Machine.execFrameError t p bytes s
  | .nop t p => Sys2Proof.Machine.execNop t p s
  | .unknownRequestCode t p tag rsv code body => Sys2Proof.Machine.execUnknownRequestCode t p tag rsv code body s
  | .openSession t p tag rsv body => Sys2Proof.Machine.execOpenSession t p tag rsv body s
  | .closeSession t p tag rsv body => Sys2Proof.Machine.execCloseSession t p tag rsv body s
  | .readSession t p tag rsv body => Sys2Proof.Machine.execReadSession t p tag rsv body s
  | .requestGrant t p tag rsv body => Sys2Proof.Machine.execRequestGrant t p tag rsv body s
  | .releaseGrant t p tag rsv body => Sys2Proof.Machine.execReleaseGrant t p tag rsv body s
  | .setQuota t p tag rsv body => Sys2Proof.Machine.execSetQuota t p tag rsv body s
  | .setTracker t p tag rsv body => Sys2Proof.Machine.execSetTracker t p tag rsv body s
  | .startTracker t p tag rsv body => Sys2Proof.Machine.execStartTracker t p tag rsv body s
  | .stopTracker t p tag rsv body => Sys2Proof.Machine.execStopTracker t p tag rsv body s
  | .readTracker t p tag rsv body => Sys2Proof.Machine.execReadTracker t p tag rsv body s
  | .readHistory t p tag rsv body => Sys2Proof.Machine.execReadHistory t p tag rsv body s
  | .claimLine t p tag rsv body => Sys2Proof.Machine.execClaimLine t p tag rsv body s
  | .releaseLine t p tag rsv body => Sys2Proof.Machine.execReleaseLine t p tag rsv body s
  | .setLineMode t p tag rsv body => Sys2Proof.Machine.execSetLineMode t p tag rsv body s
  | .readLines t p tag rsv body => Sys2Proof.Machine.execReadLines t p tag rsv body s
  | .insertEntry t p tag rsv body => Sys2Proof.Machine.execInsertEntry t p tag rsv body s
  | .deleteEntry t p tag rsv body => Sys2Proof.Machine.execDeleteEntry t p tag rsv body s
  | .clearLineEntries t p tag rsv body => Sys2Proof.Machine.execClearLineEntries t p tag rsv body s
  | .readEntry t p tag rsv body => Sys2Proof.Machine.execReadEntry t p tag rsv body s
  | .listEntries t p tag rsv body => Sys2Proof.Machine.execListEntries t p tag rsv body s
  | .readEvents t p tag rsv body => Sys2Proof.Machine.execReadEvents t p tag rsv body s
  | .setEventMask t p tag rsv body => Sys2Proof.Machine.execSetEventMask t p tag rsv body s
  | .setAttention t p tag rsv body => Sys2Proof.Machine.execSetAttention t p tag rsv body s
  | .ackAttention t p tag rsv body => Sys2Proof.Machine.execAckAttention t p tag rsv body s
  | .mark t => Sys2Proof.Machine.execMark t s
  | .indexEdge t => Sys2Proof.Machine.execIndexEdge t s
  | .unselectedTransition t ch => Sys2Proof.Machine.execUnselectedTransition t ch s
  | .noMarkLimit t => Sys2Proof.Machine.execNoMarkLimit t s
  | .lateTimeout t => Sys2Proof.Machine.execLateTimeout t s
  | .phaseRise t => Sys2Proof.Machine.execPhaseRise t s
  | .pulseTimerExpiry t l => Sys2Proof.Machine.execPulseTimerExpiry t l s
  | .holdAssertion t => Sys2Proof.Machine.execHoldAssertion t s
  | .holdDeassertion t => Sys2Proof.Machine.execHoldDeassertion t s
  | .silenceExpiry t p => Sys2Proof.Machine.execSilenceExpiry t p s
  | .insertionCompletes t => Sys2Proof.Machine.execInsertionCompletes t s
  | .entryDeletionCompletes t => Sys2Proof.Machine.execEntryDeletionCompletes t s
  | .lineClearCompletes t => Sys2Proof.Machine.execLineClearCompletes t s
  | .releaseDeletionCompletes t => Sys2Proof.Machine.execReleaseDeletionCompletes t s
  | .teardownSweepCompletes t => Sys2Proof.Machine.execTeardownSweepCompletes t s
  | .spentRemovalCompletes t => Sys2Proof.Machine.execSpentRemovalCompletes t s
  | .conditionerHoldBegins t ch sample => Sys2Proof.Machine.execConditionerHoldBegins t ch sample s
  | .conditionerHoldAbandoned t ch => Sys2Proof.Machine.execConditionerHoldAbandoned t ch s

end Sys2Proof.Machine
end

