-- ==== Sys2Proof/Machine/Ticking.lean ====
section
/-! DEFINITION. What a tick of the part's clock does when no command waits (log entry 3): time moves on by one tick, and
the events that fall due at it are put in the queue, in an order the manual leaves open. -/

namespace Sys2Proof.Machine

/-- The recognition a channel makes at this tick, as a command (R1, R3). -/
def State.dueRecognition (s : State) (ch : Channel) : List Instr :=
  match s.recognised ch with
  | some (e, _) =>
    if (s.channel ch).hold = none then []
    else if s.tracker.config.delivers ch e then
      match ch with
      | .mark => [.mark s.now]
      | .index => [.indexEdge s.now]
    else [.unselectedTransition s.now ch]
  | none => []

/-- Whether the job in service completes at this tick: 1 to 200 ticks after it was taken, as a free value decides
(R57, log entry 5). -/
def Service.completes (v : Service) (now : Nat) : Bool :=
  decide (v.takenAt + 1 + Config.freeJobTicks v.draw % 200 ≤ now)

/-- The command by which a job completes. -/
def Job.completion (t : Nat) : Job → Instr
  | .port _ (.insertion _) => .insertionCompletes t
  | .port _ (.entryDeletion _) => .entryDeletionCompletes t
  | .port _ (.lineClear _) => .lineClearCompletes t
  | .port _ (.releaseDeletion _) => .releaseDeletionCompletes t
  | .internal (.sweep _) => .teardownSweepCompletes t
  | .internal (.spentRemoval _ _) => .spentRemovalCompletes t

/-- A command, if its event is due. -/
def whenDue (due : Bool) (i : Instr) : List Instr := if due then [i] else []

/-- The events of the part's own that fall due at this tick. -/
def State.dueEvents (s : State) : List Instr :=
  s.dueRecognition .mark ++ s.dueRecognition .index ++
    whenDue s.noMarkLimitDue (.noMarkLimit s.now) ++
    whenDue s.lateTimeoutDue (.lateTimeout s.now) ++
    whenDue s.phaseRises (.phaseRise s.now) ++
    (List.finRange 16).flatMap (fun l => whenDue ((s.line l).timerDue s.now) (.pulseTimerExpiry s.now l)) ++
    allPorts.flatMap (fun p => whenDue (s.silenceDue p) (.silenceExpiry s.now p)) ++
    (match s.engine.service with
     | some v => whenDue (v.completes s.now) (v.job.completion s.now)
     | none => [])

/-- A tick with no command waiting. -/
def State.tick (s : State) : State :=
  let s := s.advanceTo (s.now + 1)
  let due := s.dueEvents
  (s.setPending (s.pending ++ anyOrder s.draws due)).setDraws (s.draws + due.length)

end Sys2Proof.Machine
end

