-- ==== Sys2Proof/Safety.lean ====
section
/-! DEFINITION. The terms in which claims about the part are stated: what a taken frame does at its own port, the
admission table of R139, counts and means written from the manual's words, and the invariants of the part. -/

namespace Sys2Proof

/-- A valid frame that is not a NOP, as it is taken: the tick, the port, and the fields of Table 9-1. -/
structure RequestFrame where
  tick : Nat
  port : Port
  tag : Tag
  rsv : Tag
  code : Nat
  body : List Byte
  deriving DecidableEq, Repr

/-- The frame of a request, with its code of Table 9-3; no other command has one. -/
def Instr.requestFrame (i : Instr) : Option RequestFrame :=
  match i with
  | .unknownRequestCode t p tag rsv code body => some ⟨t, p, tag, rsv, code.toNat, body⟩
  | .openSession t p tag rsv body => some ⟨t, p, tag, rsv, 0x01, body⟩
  | .closeSession t p tag rsv body => some ⟨t, p, tag, rsv, 0x02, body⟩
  | .readSession t p tag rsv body => some ⟨t, p, tag, rsv, 0x03, body⟩
  | .requestGrant t p tag rsv body => some ⟨t, p, tag, rsv, 0x04, body⟩
  | .releaseGrant t p tag rsv body => some ⟨t, p, tag, rsv, 0x05, body⟩
  | .setQuota t p tag rsv body => some ⟨t, p, tag, rsv, 0x06, body⟩
  | .setTracker t p tag rsv body => some ⟨t, p, tag, rsv, 0x10, body⟩
  | .startTracker t p tag rsv body => some ⟨t, p, tag, rsv, 0x11, body⟩
  | .stopTracker t p tag rsv body => some ⟨t, p, tag, rsv, 0x12, body⟩
  | .readTracker t p tag rsv body => some ⟨t, p, tag, rsv, 0x13, body⟩
  | .readHistory t p tag rsv body => some ⟨t, p, tag, rsv, 0x14, body⟩
  | .claimLine t p tag rsv body => some ⟨t, p, tag, rsv, 0x20, body⟩
  | .releaseLine t p tag rsv body => some ⟨t, p, tag, rsv, 0x21, body⟩
  | .setLineMode t p tag rsv body => some ⟨t, p, tag, rsv, 0x22, body⟩
  | .readLines t p tag rsv body => some ⟨t, p, tag, rsv, 0x23, body⟩
  | .insertEntry t p tag rsv body => some ⟨t, p, tag, rsv, 0x30, body⟩
  | .deleteEntry t p tag rsv body => some ⟨t, p, tag, rsv, 0x31, body⟩
  | .clearLineEntries t p tag rsv body => some ⟨t, p, tag, rsv, 0x32, body⟩
  | .readEntry t p tag rsv body => some ⟨t, p, tag, rsv, 0x33, body⟩
  | .listEntries t p tag rsv body => some ⟨t, p, tag, rsv, 0x34, body⟩
  | .readEvents t p tag rsv body => some ⟨t, p, tag, rsv, 0x40, body⟩
  | .setEventMask t p tag rsv body => some ⟨t, p, tag, rsv, 0x41, body⟩
  | .setAttention t p tag rsv body => some ⟨t, p, tag, rsv, 0x42, body⟩
  | .ackAttention t p tag rsv body => some ⟨t, p, tag, rsv, 0x43, body⟩
  | .reset .. | .transactionStart .. | .frameError .. | .nop .. | .mark .. | .indexEdge .. | .unselectedTransition ..
  | .noMarkLimit .. | .lateTimeout .. | .phaseRise .. | .pulseTimerExpiry .. | .holdAssertion ..
  | .holdDeassertion .. | .silenceExpiry .. | .insertionCompletes .. | .entryDeletionCompletes ..
  | .lineClearCompletes .. | .releaseDeletionCompletes .. | .teardownSweepCompletes ..
  | .spentRemovalCompletes .. | .conditionerHoldBegins .. | .conditionerHoldAbandoned .. => none

/-- The tick and port of a command that a transaction's end can be: a request, a frame error or a NOP. -/
def Instr.transactionEnd (i : Instr) : Option (Nat × Port) :=
  match i, i.requestFrame with
  | .frameError t p _, _ => some (t, p)
  | .nop t p, _ => some (t, p)
  | _, some f => some (f.tick, f.port)
  | _, none => none

/-- The direction of the transition that a channel at this filtered level recognises (R1). -/
def Level.leaving : Level → Machine.Edge
  | .low => .rising
  | .high => .falling

/-- The command that hands on the edge a channel delivers at a tick (R3, R4). -/
def Channel.edgeCommand (t : Nat) : Channel → Instr
  | .mark => .mark t
  | .index => .indexEdge t

namespace Machine

/-! ### A port at the end of a frame -/

/-- A port as a valid frame leaves it before the frame's request acts: the transaction is over with its 64 bytes counted,
and the silence timer, where it runs, starts again from this tick (R128 to R130, R116). -/
def PortState.afterFrame (ps : PortState) (now : Nat) : PortState :=
  { ps with
    transaction := .none
    received := 64
    session :=
      match ps.session with
      | .opened limit _ => .opened limit now
      | other => other }

/-- A set of causes with REPLY in it. -/
def CauseSet.withReply (c : CauseSet) : CauseSet := { c with reply := true }

/-- A port whose reply register passes to DONE: tag, status, body, the port's epoch, and REPLY latched (R136, R154). -/
def PortState.replied (ps : PortState) (tag : Tag) (status : Status) (body : List Byte) : PortState :=
  { ps with
    reply := .done tag status body ps.epoch
    attention := { ps.attention with latched := ps.attention.latched.withReply } }

/-- A port that took a frame and answered it at once. -/
def PortState.answered (ps : PortState) (now : Nat) (tag : Tag) (status : Status) (body : List Byte) : PortState :=
  (ps.afterFrame now).replied tag status body

/-- A port that took a long request: WORKING with the request and its tag, PENDING with the tag and the epoch (R141). -/
def PortState.begun (ps : PortState) (now : Nat) (r : LongRequest) (tag : Tag) : PortState :=
  { ps.afterFrame now with slot := .working r tag, reply := .pending tag ps.epoch }

/-- A port whose long request's work completes: DONE and IDLE where the slot still holds that request, and unchanged
where a teardown has taken the slot (R136, R141). -/
def PortState.completed (ps : PortState) (r : LongRequest) (status : Status) (body : List Byte) : PortState :=
  match ps.slot with
  | .working r' tag => if r' = r then { ps.replied tag status body with slot := .idle } else ps
  | .idle => ps
  | .teardown _ => ps

/-- The part at tick `t` after port `p` took a frame that was answered at once and did nothing else. -/
def State.answers (s : State) (t : Nat) (p : Port) (tag : Tag) (status : Status) (body : List Byte) : State :=
  (s.advanceTo t).setPort p ((s.port p).answered (max s.now t) tag status body)

/-- The part at tick `t` after port `p` took a frame that changed nothing but what `PortState.afterFrame` gives. -/
def State.onlyFrame (s : State) (t : Nat) (p : Port) : State :=
  (s.advanceTo t).setPort p ((s.port p).afterFrame (max s.now t))

/-- A port at which a frame is taken and its request looked at: the slot is IDLE, and select was not asserted through
a RESET. -/
structure State.TakesRequests (s : State) (p : Port) : Prop where
  idle : (s.port p).slot = .idle
  attached : (s.port p).transaction ≠ .ignored

/-- A port whose requests are admitted past the session check: it takes requests and its session is OPEN. -/
structure State.Admits (s : State) (p : Port) : Prop where
  idle : (s.port p).slot = .idle
  attached : (s.port p).transaction ≠ .ignored
  opened : (s.port p).isOpen = true

/-! ### The admission table (R139, Tables 7-3 and 9-2) -/

/-- The requests that need an OPEN session: all but OPEN_SESSION. -/
def codeNeedsSession (code : Nat) : Bool := decide (code ≠ 0x01)

/-- The requests that need the setup grant: SET_QUOTA, SET_TRACKER, START_TRACKER, STOP_TRACKER. -/
def codeNeedsGrant (code : Nat) : Bool := decide (code ∈ [0x06, 0x10, 0x11, 0x12])

/-- The tracker states in which a request passes the tracker-state check. -/
def codeAllowsState (code : Nat) (st : TrackerState) : Bool :=
  if code = 0x10 then decide (st = .stopped)
  else if code = 0x11 then decide (st = .stopped ∨ st = .lost)
  else true

/-- The one body length of each request (Table 9-2). -/
def codeBodyLength (code : Nat) : Nat :=
  if code ∈ [0x21, 0x31, 0x32, 0x33, 0x34, 0x40, 0x43] then 1
  else if code ∈ [0x01, 0x06, 0x22, 0x41] then 2
  else if code = 0x42 then 3
  else if code = 0x20 then 4
  else if code ∈ [0x10, 0x30] then 12
  else 0

/-- Whether the values of a request's body are in their ranges and its reserved fields 0. -/
def codeAcceptsValues (code : Nat) (body : List Byte) : Bool :=
  match code with
  | 0x01 => (parseOpenSession body).isSome
  | 0x06 => (parseSetQuota body).isSome
  | 0x10 => (parseTrackerConfig body).isSome
  | 0x20 => (parseClaim body).isSome
  | 0x21 => (parseLineBody body).isSome
  | 0x22 => (parseLineMode body).isSome
  | 0x30 => (parseEntry body).isSome
  | 0x31 => (parseIdBody body).isSome
  | 0x32 => (parseLineBody body).isSome
  | 0x33 => (parseIdBody body).isSome
  | 0x34 => (parseIdBody body).isSome
  | 0x40 => (parseCount body).isSome
  | 0x41 => (parseEventMask body).isSome
  | 0x42 => (parseAttention body).isSome
  | 0x43 => (parseAck body).isSome
  | _ => true

/-- The status of the first of the checks 1 to 5 of R139 that a request fails, if it fails one. -/
def State.refusal (s : State) (f : RequestFrame) : Option Status :=
  if f.code = 0 ∨ f.code ∉ requestCodes then some .badCode
  else if codeNeedsSession f.code = true ∧ (s.port f.port).isOpen = false then some .noSession
  else if codeNeedsGrant f.code = true ∧ s.grant ≠ some f.port then some .notGranted
  else if codeAllowsState f.code s.tracker.state = false then some .wrongState
  else if f.rsv ≠ 0 ∨ f.body.length ≠ codeBodyLength f.code ∨ codeAcceptsValues f.code f.body = false then some .badArg
  else none

/-! ### Counts and means -/

/-- The number of occupied slots whose entry satisfies a test. -/
def State.slotsWith (s : State) (test : Entry → Bool) : Nat :=
  ((List.finRange 128).filter fun i => (s.slot i).any test).length

/-- The newest `k` of a list that holds the oldest first. -/
def newestOf {α : Type} (k : Nat) (l : List α) : List α := (l.reverse.take k).reverse

/-- The floor of the mean of a list of intervals. -/
def floorMean (l : List Nat) : Nat := l.sum / l.length

/-- A record that says something with the phase and the cycle number as they stand in `s`. -/
def State.stamp (s : State) (x : Payload) : Record :=
  { phase := s.tracker.phase, cycle := s.tracker.cycle, payload := x }

/-- The phase count of R29 for M marks, the estimate E, a mark position and an elapsed time. -/
def phaseFormula (marks estimate pos elapsed : Nat) : Nat :=
  pos * (4096 / marks) + min (elapsed * (4096 / marks) / estimate) (4096 / marks - 1)

/-! ### What the rules make of the tracker -/

/-- The ring and E after an interval enters: the newest 8, and the floor of the mean of the newest D (R8, R14). -/
def Tracker.withInterval (t : Tracker) (d : Nat) : Tracker :=
  { t with
    ring := newestOf 8 (t.ring ++ [d])
    estimate := floorMean (newestOf t.config.avgDepth (newestOf 8 (t.ring ++ [d]))) }

/-- The mark position a mark takes in ACQUIRING: the table of R21. -/
def Tracker.positionTaken (t : Tracker) : Option Nat :=
  match t.indexPending, t.markPos, t.config.indexUse with
  | true, _, _ => some 0
  | false, none, false => some 0
  | false, none, true => none
  | false, some k, _ => if k + 1 < t.config.marks then some (k + 1) else some 0

/-- The tracker after a mark taken in ACQUIRING with recorded time `n`, before any lock (R10, R21). -/
def Tracker.acquired (t : Tracker) (n : Nat) : Tracker :=
  let measured :=
    match t.reference with
    | none => t
    | some r =>
      if n - r.time = 0 then t
      else if n - r.time ≤ 8388607 then t.withInterval (n - r.time)
      else { t with ring := [], estimate := 0 }
  { measured with
    reference := some { time := n, kind := .genuine }
    markPos := t.positionTaken
    indexPending := false
    indexSeen := if t.positionTaken = some 0 then false else t.indexSeen }

/-- The tracker after steps 1, 2 and 4 of R25, for an accepted mark with recorded time `n` and the reference `r` (R12). -/
def Tracker.accepted (t : Tracker) (r : Reference) (n : Nat) : Tracker :=
  let measured :=
    if r.kind = .genuine ∧ 1 ≤ n - r.time ∧ n - r.time ≤ 8388607 then t.withInterval (n - r.time) else t
  { measured with reference := some { time := n, kind := .genuine }, coast := 0 }

/-- The tracker after steps 1 and 3 of R26, from the reference `r`. -/
def Tracker.substituted (t : Tracker) (r : Reference) : Tracker :=
  { t with coast := t.coast + 1, reference := some { time := r.time + t.estimate, kind := .nominal } }

/-- The tracker as an entry to LOST leaves it (R40). -/
def Tracker.lost (t : Tracker) : Tracker :=
  { t with state := .lost, ring := [], estimate := 0, reference := none, markPos := none, phase := none,
           indexPending := false }

/-- The part after the tracker's notice of tracking ended: no walk position, ACTIVE entries PENDING, lines in RUN
READY with nothing pending (R50, R70, R104). -/
def State.untracked (s : State) : State :=
  { s with
    walkPos := .none
    slots := s.slots.map fun o => o.map fun e => if e.status = .active then { e with status := .pending } else e
    lines := s.lines.map fun l =>
      if l.mode = .run then { l with mode := .ready, active := false, pulse := .none } else l }

/-- A wrap that R38 turns into a loss: INDEX_USE ON, no index seen, and a missed-index count that is not 0. -/
def Tracker.losingWrap (t : Tracker) (k : Nat) : Prop :=
  k + 1 = t.config.marks ∧ t.config.indexUse = true ∧ t.indexSeen = false ∧ t.missed ≠ 0

/-! ### What falls due at a tick -/

/-- Whether the record selects this direction of a channel for delivery (R3). -/
def TrackerConfig.Selects (c : TrackerConfig) (ch : Channel) (e : Edge) : Prop :=
  match ch with
  | .mark => c.markEdge = e
  | .index => c.indexUse = true ∧ c.indexEdge = e

/-- The filter length of a channel in the record (Table 1-1). -/
def TrackerConfig.filterOf (c : TrackerConfig) (ch : Channel) : Nat :=
  match ch with
  | .mark => c.markFilter
  | .index => c.indexFilter

/-- A channel at a known filtered level with a hold in progress that began `F` ticks ago or more, and with the sample of
this tick still to be taken (R1). -/
def ChannelState.HoldComplete (c : ChannelState) (f now : Nat) (l : Level) : Prop :=
  c.filtered = .level l ∧ c.sampled ≠ some now ∧ ∃ n, c.hold = some n ∧ n + f ≤ now

/-- The phase count of R29 as the tracker stands at a tick. -/
def Tracker.phaseNow (t : Tracker) (now : Nat) : Nat :=
  phaseFormula t.config.marks t.estimate (t.markPos.getD 0)
    (match t.reference with
     | some r => now - r.time
     | none => 0)

/-- The events of the part's own that fall due at the present tick, each by its rule: R1 and R3 with the sample of this
tick at the new level, R11, R26, R29 with R30, R88 with R89, R117 and R57. -/
inductive State.Due (s : State) : Instr → Prop
  | edge (ch : Channel) (l : Level) : (s.channel ch).HoldComplete (s.tracker.config.filterOf ch) s.now l →
      s.tracker.config.Selects ch l.leaving → s.Due (ch.edgeCommand s.now)
  | unselected (ch : Channel) (l : Level) : (s.channel ch).HoldComplete (s.tracker.config.filterOf ch) s.now l →
      ¬s.tracker.config.Selects ch l.leaving → s.Due (.unselectedTransition s.now ch)
  | noMarkLimit (r : Reference) : s.tracker.state = .acquiring → s.tracker.reference = some r →
      8388608 ≤ s.now - r.time → s.Due (.noMarkLimit s.now)
  | lateTimeout (r : Reference) : s.tracker.state = .locked ∨ s.tracker.state = .coasting →
      s.tracker.reference = some r → s.tracker.estimate * (16 + s.tracker.config.late) / 16 ≤ s.now - r.time →
      s.Due (.lateTimeout s.now)
  | phaseRise (ph : Nat) : s.tracker.state = .locked ∨ s.tracker.state = .coasting → s.tracker.phase = some ph →
      ph < s.tracker.phaseNow s.now → s.Due (.phaseRise s.now)
  | pulseTimer (l : Line) (id : EntryId) (seq : Count32) (expires : Nat) :
      (s.line l).pulse = .timeEnd id seq expires → expires ≤ s.now → s.Due (.pulseTimerExpiry s.now l)
  | silence (p : Port) (limit start : Nat) : (s.port p).session = .opened limit start →
      limit * 1000 ≤ s.now - start → s.Due (.silenceExpiry s.now p)
  | job (v : Service) : s.engine.service = some v →
      v.takenAt + 1 + Config.freeJobTicks v.draw % 200 ≤ s.now → s.Due (v.job.completion s.now)

/-- A phase at which the walker has something to take in a cycle: the end of a pulse set for that cycle, or an ACTIVE
entry (R71). -/
def State.DueAt (s : State) (cycle : Count32) (phase : Nat) : Prop :=
  (∃ l id seq, (s.line l).pulse = .phaseEnd id seq phase cycle) ∨
    ∃ i e, s.slot i = some e ∧ e.status = .active ∧ e.effective = phase

/-! ### What the rules make of a line or an entry -/

/-- A line put in SAFE: READY and RUN go there with nothing pending, every other mode stays (R98, R102, R108). -/
def LineState.safed (l : LineState) : LineState :=
  if l.mode = .ready ∨ l.mode = .run then { l with mode := .safe, active := false, pulse := .none } else l

/-- A line after the notice that a teardown of `p` has begun (R108). -/
def LineState.afterTeardownOf (p : Port) (l : LineState) : LineState :=
  { (if l.owner = some p then l.safed else l) with waiting := l.waiting.filter fun w => decide (w.port ≠ p) }

/-- A line after a hand-over (R100): the first waiter's, or RELEASED. -/
def LineState.handedOver (l : LineState) : LineState :=
  match l.waiting with
  | w :: ws =>
    { owner := some w.port, mode := .safe, polarity := w.polarity, safeLevel := w.safeLevel, active := false,
      pulse := .none, waiting := ws }
  | [] =>
    { owner := none, mode := .released, polarity := .activeHigh, safeLevel := .float, active := false,
      pulse := .none, waiting := [] }

/-- The place of a port in a line's waiting list, 1 for the first, or 0 when it does not wait (R123). -/
def LineState.placeOf (l : LineState) (p : Port) : Nat :=
  if p ∈ l.waiting.map (·.port) then (l.waiting.map (·.port)).idxOf p + 1 else 0

/-- The body of CLAIM_LINE (Table 9-2). -/
def ClaimArgs.bytes (a : ClaimArgs) : List Byte :=
  [BitVec.ofNat 8 a.line.val, (match a.polarity with | .activeHigh => 0#8 | .activeLow => 1#8),
   (match a.safeLevel with | .low => 0#8 | .high => 1#8 | .float => 2#8), if a.wait then 1#8 else 0#8]

/-- An entry's fields that INSERT_ENTRY may carry (R45, Table 3-1). -/
structure EntryFields.Legal (f : EntryFields) : Prop where
  trigger : f.trigger ≤ 4095
  phaseWidth : ∀ w, f.action = .pulse .phase w → 1 ≤ w ∧ w ≤ 4095
  timeWidth : ∀ w, f.action = .pulse .time w → 1 ≤ w ∧ w ≤ 65535
  lead : f.lead ≤ 65535
  nth : ∀ n off, f.filter = .nth n off → 2 ≤ n ∧ n ≤ 255 ∧ off < n

/-- The last-fired record, the line, the status and the records of a firing follow only where the entry fires (R78). -/
def State.Fires (s : State) (id : EntryId) (e : Entry) (cycle : Count32) : Prop :=
  e.status = .active ∧ (s.line e.fields.line).mode = .run ∧ s.lastFired.get id ≠ some cycle ∧
    (∀ n off, e.fields.filter = .nth n off → cycle.toNat % n = off)

/-- What stands before what in the walk order: effective phase, then trigger phase, then sequence (R54). -/
def Entry.walksBefore (a b : Entry) : Prop :=
  a.effective < b.effective ∨
    a.effective = b.effective ∧
      (a.fields.trigger < b.fields.trigger ∨ a.fields.trigger = b.fields.trigger ∧ a.seq.toNat ≤ b.seq.toNat)

/-- How far a port stands after another in the order A, B, C, D, A: 0 for the next one, 3 for the port itself. -/
def stepsAfter (a b : Port) : Nat := (portCode b + 3 - portCode a) % 4

/-! ### Invariants -/

/-- A configuration record that SET_TRACKER accepts, or the default one (Tables 1-1 and 2-2). -/
structure TrackerConfig.Legal (c : TrackerConfig) : Prop where
  marks : c.marks ∈ [1, 2, 4, 8, 16, 32, 64]
  avgDepth : c.avgDepth ∈ [1, 2, 4, 8]
  early : 1 ≤ c.early ∧ c.early ≤ 15
  late : 1 ≤ c.late ∧ c.late ≤ 16
  coastLimit : c.coastLimit ≤ 15
  markFilter : c.markFilter ≤ 255
  indexFilter : c.indexFilter ≤ 255

/-- What holds of the tracker, with the walk position, between events (2.1, R8, R13, R14, R31, R70). -/
structure TrackerInv (s : State) : Prop where
  config : s.tracker.config.Legal
  ringSize : s.tracker.ring.length ≤ 8
  ringRange : ∀ d ∈ s.tracker.ring, 1 ≤ d ∧ d ≤ 8388607
  estimate : s.tracker.estimate = floorMean (newestOf s.tracker.config.avgDepth s.tracker.ring)
  position : ∀ k, s.tracker.markPos = some k → k < s.tracker.config.marks
  coast : s.tracker.coast ≤ s.tracker.config.coastLimit
  missed : s.tracker.missed ≤ 2
  tracking : s.tracker.state.tracks = true →
    s.tracker.config.avgDepth ≤ s.tracker.ring.length ∧ s.tracker.reference.isSome = true ∧
      s.tracker.markPos.isSome = true ∧
      ∃ ph, s.tracker.phase = some ph ∧ ph ≤ 4095 ∧ s.walkPos = .reached ph
  notTracking : s.tracker.state.tracks = false → s.tracker.phase = none ∧ s.walkPos = .none
  resting : s.tracker.state = .stopped ∨ s.tracker.state = .lost →
    s.tracker.ring = [] ∧ s.tracker.reference = none ∧ s.tracker.markPos = none
  stopped : s.tracker.state = .stopped → s.tracker.coast = 0

/-- What holds of the sixteen lines (R93, R95, R97, R100): a line in RUN has the tracker tracking and HOLD deasserted,
and an owner that has asked for it to run has an OPEN session. -/
structure LinesInv (s : State) : Prop where
  unowned : ∀ l, (s.line l).owner = none → s.line l = LineState.released
  owned : ∀ l p, (s.line l).owner = some p → (s.line l).mode ≠ .released
  quiet : ∀ l, (s.line l).mode ≠ .run → (s.line l).active = false ∧ (s.line l).pulse = .none
  running : ∀ l, (s.line l).mode = .run →
    s.tracker.state.tracks = true ∧ s.hold.pin = .high ∧ s.hold.awaiting = none
  asked : ∀ l p, (s.line l).owner = some p → ((s.line l).mode = .ready ∨ (s.line l).mode = .run) →
    (s.port p).isOpen = true
  fewWait : ∀ l, (s.line l).waiting.length ≤ 3
  onceEach : ∀ l, ((s.line l).waiting.map (·.port)).Nodup
  notOwner : ∀ l, ∀ w ∈ (s.line l).waiting, (s.line l).owner ≠ some w.port

/-- What holds at one port (R132, R135, R149, R153): the register is PENDING exactly while the slot is WORKING, a
CLOSED port's slot is IDLE, a CLOSING port's is held by its teardown, a full queue ends in a LOST record, and the
condition values are those of the depth. -/
structure PortInv (ps : PortState) : Prop where
  pendingIff : (∃ tag epoch, ps.reply = .pending tag epoch) ↔ ps.slot ≠ .idle
  closedIdle : ps.session = .closed → ps.slot = .idle
  closingIff : (∃ limit cause, ps.session = .closing limit cause) ↔
    ((∃ tag, ps.slot = .teardown tag) ∨ ∃ tag, ps.slot = .working .closeSession tag)
  depth : ps.queue.length ≤ 32
  fullEndsLost : ps.queue.length = 32 → newestIsLost ps.queue = true
  watermarkRange : 1 ≤ ps.attention.watermark ∧ ps.attention.watermark ≤ 31
  watermarkHolds : ps.attention.watermarkHolds = decide (ps.attention.watermark ≤ ps.queue.length)
  nonemptyHolds : ps.attention.nonemptyHolds = decide (1 ≤ ps.queue.length)
  quota : ps.quota ≤ 128

/-- Every port is as it should be. -/
def PortsInv (s : State) : Prop := ∀ p, PortInv (s.port p)

/-- The long request that a port's job belongs to (Table 3-4). -/
def PortJob.request : PortJob → LongRequest
  | .insertion _ => .insertEntry
  | .entryDeletion _ => .deleteEntry
  | .lineClear _ => .clearLineEntries
  | .releaseDeletion _ => .releaseLine

/-- The line that a port's job needs its port to own until it completes. -/
def PortJob.line : PortJob → Option Line
  | .insertion f => some f.line
  | .releaseDeletion l => some l
  | .entryDeletion _ => none
  | .lineClear l => some l

/-- How many teardown sweeps of a port the engine has not completed, in service and in the internal queue. -/
def Engine.sweeps (e : Engine) (p : Port) : Nat :=
  (match e.service with
   | some v => if v.job = .internal (.sweep p) then 1 else 0
   | none => 0) + e.internal.count (.sweep p)

/-- The job of a port that the engine holds, waiting or in service. -/
def Engine.Holds (e : Engine) (p : Port) (j : PortJob) : Prop :=
  e.waiting.get p = some j ∨ ∃ v, e.service = some v ∧ v.job = .port p j

/-- What holds of everything the ports own (R46, R55, R56, R119, R121, R124): every entry stands on a line of its owner,
a CLOSED port owns nothing, a CLOSING port has exactly one sweep coming, a port has one job at most and its slot holds
the request of that job, and the engine is never idle while a job waits. -/
structure OwnershipInv (s : State) : Prop where
  entryLine : ∀ i e, s.slot i = some e → (s.line e.fields.line).owner = some e.owner
  lineOwner : ∀ l p, (s.line l).owner = some p → (s.port p).isClosed = false
  unownedEmpty : ∀ l, (s.line l).owner = none → (s.line l).waiting = []
  waiterOpen : ∀ l, ∀ w ∈ (s.line l).waiting, (s.port w.port).isOpen = true
  holderOpen : ∀ p, s.grant = some p → (s.port p).isOpen = true
  jobLine : ∀ p j l, s.engine.Holds p j → j.line = some l → (s.line l).owner = some p
  jobOpen : ∀ p j, s.engine.Holds p j → (s.port p).isClosed = false
  jobSlot : ∀ p j, s.engine.Holds p j → (s.port p).isOpen = true → ∃ tag, (s.port p).slot = .working j.request tag
  waitingOpen : ∀ p j, s.engine.waiting.get p = some j → (s.port p).isOpen = true
  oneJob : ∀ p j v, s.engine.waiting.get p = some j → s.engine.service = some v → ∀ k, v.job ≠ .port p k
  sweepOnce : ∀ p, s.engine.sweeps p = if (s.port p).isOpen || (s.port p).isClosed then 0 else 1
  busy : s.engine.service = none → s.engine.internal = [] ∧ ∀ p, s.engine.waiting.get p = none

end Machine

end Sys2Proof
end

