-- ==== Sys2Proof/Certificates/Slice0/Obligations.lean ====
section
/-! DEFINITION. The statements for the provers. Most say what a command answers as one equation on the whole next
state: what it does, and that it changes nothing else. `s.advanceTo t` is the part when the command of tick `t` is
taken; the commands' own effects are written on it. -/

open Sys2Proof Sys2Proof.Machine

/-! ### The queue, time and reset -/

/-- A step takes the command at the front of the queue and runs it on the rest. -/
def Obligations.StepRunsTheFrontCommand : Prop :=
  ∀ (c : Instr) (rest : List Instr) (s : State),
    step { s with pending := c :: rest } = exec c { s with pending := rest }

/-- With no command waiting, a step lets one tick pass and puts the events due at it in the queue, each once (log entries
3 and 4); and which event is due when: R1, R3, R11, R26, R29, R30, R57, R88, R89, R117. -/
def Obligations.IdleStepLetsOneTickPass : Prop :=
  ∀ s : State, s.pending = [] →
    ∃ (draws : Nat) (due : List Instr),
      step s = .next { s.advanceTo (s.now + 1) with draws := draws, pending := due } ∧
        due.Perm (s.advanceTo (s.now + 1)).dueEvents ∧ (s.advanceTo (s.now + 1)).now = s.now + 1 ∧ due.Nodup ∧
        ∀ i, i ∈ due ↔ (s.advanceTo (s.now + 1)).Due i

/-- No command faults, is refused, touches the queue or takes time back (log entries 1 and 6). -/
def Obligations.EveryCommandCompletesAndKeepsTheQueue : Prop :=
  ∀ (c : Instr) (s : State),
    ∃ u, exec c s = .next u ∧ u.pending = s.pending ∧ s.now ≤ u.now ∧ s.draws ≤ u.draws

/-- RESET from any state, and the part after reset: R6, R16, R43, R68, R69, R105, R111, R127, R142, R152, R158. That
RESET keeps the model's own fields is log entry 15, the low pins of State.reset are log entry 2, the count of bytes 0 is
log entry 8, and that the first sample is that of the tick after the reset's is log entries 10 and 26. -/
def Obligations.ResetBringsEveryBlockToItsResetValues : Prop :=
  (∀ (t : Nat) (mark index hold : Level) (s : State),
    exec (.reset t mark index hold) s = .next
      { now := max s.now t
        draws := s.draws
        pending := s.pending
        markChannel :=
          { pin := mark, filtered := .awaiting (max s.now t), hold := none, sampled := some (max s.now t) }
        indexChannel :=
          { pin := index, filtered := .awaiting (max s.now t), hold := none, sampled := some (max s.now t) }
        hold := { pin := hold, awaiting := some (max s.now t), sampled := some (max s.now t) }
        tracker :=
          { state := .stopped
            config :=
              { marks := 16, avgDepth := 4, early := 4, late := 4, coastLimit := 3, slipPolicy := .align,
                autoReacquire := false, indexUse := true, markEdge := .rising, markFilter := 2,
                indexEdge := .rising, indexFilter := 2 }
            ring := [], estimate := 0, reference := none, markPos := none, coast := 0, indexSeen := false,
            indexPending := false, missed := 0, cycle := 0, phase := none }
        slots := Bank.fill 128 none
        nextSeq := 0
        engine :=
          { internal := [], waiting := { a := none, b := none, c := none, d := none }, service := none,
            lastServed := .D }
        walkPos := .none
        lastFired := Bank.fill 128 none
        lines := Bank.fill 16
          { owner := none, mode := .released, polarity := .activeHigh, safeLevel := .float, active := false,
            pulse := .none, waiting := [] }
        ports := s.ports.mapPort fun _ ps =>
          { transaction := if ps.transaction = .none then .none else .ignored
            received := 0
            slot := .idle, reply := .empty, session := .closed, epoch := 0, quota := 32, queue := [], queueSeq := 0,
            mask :=
              { state := true, markRejected := false, markSubstituted := false, slip := true, indexMissed := false }
            interval := 0
            attention :=
              { enables := CauseSet.empty, watermarkEdge := .rising, nonemptyEdge := .rising, watermark := 16,
                latched := CauseSet.empty, watermarkHolds := false, nonemptyHolds := false } }
        grant := none }) ∧
  (∀ p, (State.reset.port p).transaction = .none) ∧ exec (.reset 0 .low .low .low) State.reset = .next State.reset

/-! ### Frames -/

/-- The bits shifted in make up bytes, most significant bit first, and bits that make up no byte are ignored; bytes beyond
the 64th are ignored (R128, R129). The checks of R130: a short transaction, a bad length or a bad CRC is a frame error,
and any other transaction is the command its fields give. -/
def Obligations.FrameChecksDecideTheCommand : Prop :=
  ∀ (t : Nat) (p : Port) (bytes : List Byte),
    let len := (bytes.getD 2 0).toNat
    let bad := bytes.length < 64 ∨ 59 < len ∨ crc8 (bytes.take (3 + len)) ≠ bytes.getD (3 + len) 0
    (bad → decodeTransaction t p bytes = .frameError t p (bytes.take 64)) ∧
      (¬bad → decodeTransaction t p bytes =
        decodeRequest t p ((bytes.getD 0 0).extractLsb' 0 4) ((bytes.getD 0 0).extractLsb' 4 4) (bytes.getD 1 0)
          ((bytes.drop 3).take len)) ∧
      (∀ extra : List Byte, 64 ≤ bytes.length → decodeTransaction t p (bytes ++ extra) = decodeTransaction t p bytes) ∧
      ∀ bits : List Bool, bits.length < 8 →
        bytesOfBits
          ((bytes.flatMap fun b =>
            [b.getLsbD 7, b.getLsbD 6, b.getLsbD 5, b.getLsbD 4, b.getLsbD 3, b.getLsbD 2, b.getLsbD 1,
             b.getLsbD 0]) ++ bits) = bytes

/-- The frame encoded for a command reads back as that command, with every tag, reserved bit and body byte. -/
def Obligations.EncodedTransactionsReadBack : Prop :=
  ∀ (i : Instr) (bytes : List Byte), i.wf = true → encodeTransaction i = some bytes →
    ∃ t p, i.transactionEnd = some (t, p) ∧ decodeTransaction t p bytes = i

/-- Every body that carries arguments (Table 9-2, with the records of Tables 9-4 and 9-5) is read exactly where its values
are in range and its reserved fields 0: R5, R18, R45, R61, R62, R96, R102, R114, R126, R147, R151, R156, R157, R160. That
bits 5 to 7 of the cause byte of SET_ATTENTION and ACK_ATTENTION are reserved is log entry 9. -/
def Obligations.RecordsAreReadExactlyInTheirRanges : Prop :=
  (∀ (body : List Byte) (c : TrackerConfig), parseTrackerConfig body = some c ↔ c.Legal ∧ body = c.bytes) ∧
    (∀ (body : List Byte) (f : EntryFields), parseEntry body = some f ↔ f.Legal ∧ body = f.bytes) ∧
    (∀ (body : List Byte) (limit : Nat),
      parseOpenSession body = some limit ↔ (10 ≤ limit ∧ limit ≤ 60000) ∧ body = leBytes 2 limit) ∧
    (∀ (body : List Byte) (p : Port) (quota : Nat),
      parseSetQuota body = some (p, quota) ↔
        quota ≤ 128 ∧ body = [BitVec.ofNat 8 (portCode p), BitVec.ofNat 8 quota]) ∧
    (∀ (body : List Byte) (a : ClaimArgs), parseClaim body = some a ↔ body = a.bytes) ∧
    (∀ (body : List Byte) (l : Line), parseLineBody body = some l ↔ body = [BitVec.ofNat 8 l.val]) ∧
    (∀ (body : List Byte) (l : Line) (run : Bool),
      parseLineMode body = some (l, run) ↔ body = [BitVec.ofNat 8 l.val, if run then 3 else 1]) ∧
    (∀ (body : List Byte) (id : EntryId), parseIdBody body = some id ↔ body = [BitVec.ofNat 8 id.val]) ∧
    (∀ (body : List Byte) (n : Nat), parseCount body = some n ↔ (1 ≤ n ∧ n ≤ 4) ∧ body = [BitVec.ofNat 8 n]) ∧
    (∀ (body : List Byte) (m : EventMask) (k : Nat),
      parseEventMask body = some (m, k) ↔ k ≤ 255 ∧ body = [m.byte, BitVec.ofNat 8 k]) ∧
    (∀ (body : List Byte) (a : AttentionArgs),
      parseAttention body = some a ↔ (1 ≤ a.watermark ∧ a.watermark ≤ 31) ∧ body = a.bytes) ∧
    (∀ (body : List Byte) (c : CauseSet), parseAck body = some c ↔ body = [c.byte]) ∧
    ∀ body : List Byte, parseNothing body = some () ↔ body = []

/-- The reply frame of R137 and Table 9-6, captured at the assertion of select, with the count of bytes at 0 (R129; that the
count lives beside the transaction is log entry 8); a select that is asserted already captures nothing (log entry 7); a
transaction that spans a RESET is not taken at its end (R129, R142); and the data output while a transaction is in
progress and while none is (R128, R129). -/
def Obligations.SelectCapturesTheReplyFrame : Prop :=
  (∀ (t : Nat) (p : Port) (s : State),
    (s.port p).transaction = .none →
    (∀ tag st body epoch, (s.port p).reply = .done tag st body epoch → body.length ≤ 57) →
    ∃ head body : List Byte,
      (match (s.port p).reply with
       | .empty => head = [0, 0, 0, (s.port p).attention.latched.byte, 0] ∧ body = []
       | .pending tag epoch => head = [1#4 ++ tag, 0, epoch, (s.port p).attention.latched.byte, 0] ∧ body = []
       | .done tag st b epoch =>
         head = [2#4 ++ tag, st.code, epoch, (s.port p).attention.latched.byte, BitVec.ofNat 8 b.length] ∧
           body = b) ∧
      (head ++ body ++ [crc8 (head ++ body)] ++ List.replicate (58 - body.length) 0).length = 64 ∧
      exec (.transactionStart t p) s = .next ((s.advanceTo t).setPort p
        { s.port p with
          transaction := .inProgress
            (head ++ body ++ [crc8 (head ++ body)] ++ List.replicate (58 - body.length) 0)
          received := 0 })) ∧
  (∀ (t : Nat) (p : Port) (s : State), (s.port p).transaction ≠ .none →
    exec (.transactionStart t p) s = .next (s.advanceTo t)) ∧
  (∀ (i : Instr) (t : Nat) (p : Port) (s : State), i.transactionEnd = some (t, p) →
    (s.port p).transaction = .ignored →
    exec i s = .next ((s.advanceTo t).setPort p { s.port p with transaction := .none })) ∧
  ∀ ps : PortState,
    (∀ captured, ps.transaction = .inProgress captured → captured.length = 64 →
      (∀ k j b, captured[k]? = some b → j ≤ 7 → ps.dataOut (8 * k + j) = if b.getLsbD (7 - j) then .high else .low) ∧
        ∀ clocked, 512 ≤ clocked → ps.dataOut clocked = .low) ∧
    ((∀ captured, ps.transaction ≠ .inProgress captured) → ∀ clocked, ps.dataOut clocked = .float)

/-- A frame error by the checks of R129 and R130, and R131 at both states of the slot, with the latch of R154; that the
count of bytes stays with the port is log entry 8. A select asserted through a RESET is in SelectCapturesTheReplyFrame. -/
def Obligations.FrameErrorIsRejectedOrDiscarded : Prop :=
  (∀ (t : Nat) (p : Port) (bytes : List Byte),
    bytes.length < 64 ∨ 59 < (bytes.getD 2 0).toNat ∨
      crc8 (bytes.take (3 + (bytes.getD 2 0).toNat)) ≠ bytes.getD (3 + (bytes.getD 2 0).toNat) 0 →
    decodeTransaction t p bytes = .frameError t p (bytes.take 64)) ∧
  (∀ (t : Nat) (p : Port) (bytes : List Byte) (s : State), s.TakesRequests p →
    exec (.frameError t p bytes) s = .next ((s.advanceTo t).setPort p
      { s.port p with
        transaction := .none
        received := min 64 bytes.length
        reply := .done ((bytes.getD 0 0).extractLsb' 0 4) .frameReject [] (s.port p).epoch
        attention := { (s.port p).attention with latched := (s.port p).attention.latched.withReply } })) ∧
  ∀ (t : Nat) (p : Port) (bytes : List Byte) (s : State), (s.port p).slot ≠ .idle →
    (s.port p).transaction ≠ .ignored →
    exec (.frameError t p bytes) s = .next ((s.advanceTo t).setPort p
      { s.port p with transaction := .none, received := min 64 bytes.length })

/-- R138: a NOP is known by its code alone, and its one effect is the notice of R130. -/
def Obligations.NopOnlyGivesTheAliveNotice : Prop :=
  (∀ (t : Nat) (p : Port) (tag rsv : Tag) (body : List Byte), decodeRequest t p tag rsv 0 body = .nop t p) ∧
  ∀ (t : Nat) (p : Port) (s : State), (s.port p).transaction ≠ .ignored →
    exec (.nop t p) s = .next (s.onlyFrame t p)

/-- R133: a request taken while the slot is WORKING only gives the notice of R130. -/
def Obligations.BusyRequestIsDiscarded : Prop :=
  ∀ (i : Instr) (f : RequestFrame) (s : State), i.requestFrame = some f →
    (s.port f.port).slot ≠ .idle → (s.port f.port).transaction ≠ .ignored →
    exec i s = .next (s.onlyFrame f.tick f.port)

/-- R139: the first of the checks 1 to 5 that fails gives the reply, and nothing else happens. The argument check reads the
bodies as RecordsAreReadExactlyInTheirRanges says, with log entry 9 (DEDUCED) on bits 5 to 7 of a cause byte. -/
def Obligations.AdmissionRefusesAtTheFirstFailingCheck : Prop :=
  ∀ (i : Instr) (f : RequestFrame) (s : State) (st : Status), i.wf = true → i.requestFrame = some f →
    s.TakesRequests f.port → s.refusal f = some st →
    exec i s = .next (s.answers f.tick f.port f.tag st [])

/-! ### Sessions and the grant -/

/-- OPEN_SESSION (R113, R114, R115). -/
def Obligations.OpenSessionOpensAClosedSession : Prop :=
  ∀ (t : Nat) (p : Port) (tag : Tag) (limit : Nat) (s : State), s.TakesRequests p → 10 ≤ limit → limit ≤ 60000 →
    ((s.port p).session = .closed →
      exec (.openSession t p tag 0 (leBytes 2 limit)) s = .next
        { s.advanceTo t with
          ports := s.ports.mapPort fun q ps =>
            if q = p then
              { ps with
                transaction := .none
                received := 64
                session := .opened limit (max s.now t)
                epoch := if ps.epoch = 255 then 1 else ps.epoch + 1
                mask :=
                  { state := true, markRejected := false, markSubstituted := false, slip := true,
                    indexMissed := false }
                interval := 0
                reply := .done tag .ok [if ps.epoch = 255 then 1 else ps.epoch + 1, 0x16, 0x4C, 0x01]
                  (if ps.epoch = 255 then 1 else ps.epoch + 1)
                attention := { ps.attention with latched := ps.attention.latched.withReply } }
            else if ps.isOpen then ps.arrive (s.stamp (.peer p none))
            else ps }) ∧
    ((s.port p).isOpen = true →
      exec (.openSession t p tag 0 (leBytes 2 limit)) s = .next (s.answers t p tag .already []))

/-- CLOSE_SESSION and SILENCE_EXPIRY begin a teardown: the five steps of R119 (R108, R117, R118). That a silence expiry
that is not due only lets time pass is log entry 7, and the count of draws is log entry 20. -/
def Obligations.TeardownBeginsInFiveSteps : Prop :=
  (∀ (t : Nat) (p : Port) (tag : Tag) (limit start : Nat) (s : State), s.TakesRequests p →
    (s.port p).session = .opened limit start →
    exec (.closeSession t p tag 0 []) s = .next
      { s.advanceTo t with
        draws := s.draws + 1
        ports := s.ports.set p
          { (s.port p).begun (max s.now t) .closeSession tag with session := .closing limit .closed }
        lines := s.lines.map (LineState.afterTeardownOf p)
        grant := if s.grant = some p then none else s.grant
        engine :=
          Engine.choose { s.engine with waiting := s.engine.waiting.set p none,
                                        internal := s.engine.internal ++ [.sweep p] } (max s.now t) s.draws }) ∧
  (∀ (t : Nat) (p : Port) (limit start : Nat) (s : State), (s.port p).session = .opened limit start →
    limit * 1000 ≤ max s.now t - start →
    exec (.silenceExpiry t p) s = .next
      { s.advanceTo t with
        draws := s.draws + 1
        ports := s.ports.set p
          { s.port p with
            session := .closing limit .silence
            slot :=
              match (s.port p).slot with
              | .idle => .teardown 0
              | .working _ tag => .teardown tag
              | .teardown tag => .teardown tag
            reply := if (s.port p).slot = .idle then .pending 0 (s.port p).epoch else (s.port p).reply }
        lines := s.lines.map (LineState.afterTeardownOf p)
        grant := if s.grant = some p then none else s.grant
        engine :=
          Engine.choose { s.engine with waiting := s.engine.waiting.set p none,
                                        internal := s.engine.internal ++ [.sweep p] } (max s.now t) s.draws }) ∧
  ∀ (t : Nat) (p : Port) (s : State),
    (∀ limit start, (s.port p).session = .opened limit start → max s.now t - start < limit * 1000) →
    exec (.silenceExpiry t p) s = .next (s.advanceTo t)

/-- READ_SESSION and READ_LINES answer with the layouts of Table 9-8 and change nothing else (R94, R110, R123). -/
def Obligations.SessionAndLinesAreReadWithoutChange : Prop :=
  (∀ (t : Nat) (p : Port) (tag : Tag) (limit start : Nat) (s : State), s.TakesRequests p →
    (s.port p).session = .opened limit start →
    exec (.readSession t p tag 0 []) s = .next (s.answers t p tag .ok
      ([1, (s.port p).epoch] ++ leBytes 2 limit ++
        [BitVec.ofNat 8 (s.port p).quota, BitVec.ofNat 8 (s.slotsWith fun e => decide (e.owner = p))] ++
        leBytes 2 ((List.finRange 16).map fun l => if (s.line l).owner = some p then 2 ^ l.val else 0).sum ++
        leBytes 4 ((List.finRange 16).map fun l => (s.line l).placeOf p * 4 ^ l.val).sum ++
        [if s.grant = some p then 1 else 0,
         match s.grant with
         | none => 0xFF
         | some q => BitVec.ofNat 8 (portCode q),
         BitVec.ofNat 8 ((allPorts.map fun q => if (s.port q).isOpen then 2 ^ portCode q else 0).sum)]))) ∧
  (∀ (t : Nat) (p : Port) (tag : Tag) (s : State), s.Admits p →
    exec (.readLines t p tag 0 []) s = .next (s.answers t p tag .ok
      (((List.finRange 16).flatMap fun l =>
          [match (s.line l).owner with
           | none => 0xFF
           | some q => BitVec.ofNat 8 (portCode q),
           BitVec.ofNat 8
            ((s.line l).mode.code + 4 * (s.line l).pin.code + 16 * (s.line l).waiting.length)]) ++
        [if s.hold.pin = .low then 1 else 0]))) ∧
  ∀ l : LineState,
    (l.mode = .released → l.pin = .float) ∧
    (l.mode = .safe ∨ l.mode = .ready → l.pin = l.safeLevel) ∧
    (l.mode = .run → l.pin = if (l.active = true ↔ l.polarity = .activeHigh) then .high else .low)

/-- REQUEST_GRANT by the grant's state (R124), and RELEASE_GRANT from the holder and from any other port (R125). -/
def Obligations.GrantIsTakenWhenFreeAndGivenBack : Prop :=
  ∀ (t : Nat) (p : Port) (tag : Tag) (s : State), s.Admits p →
    (s.grant = none → exec (.requestGrant t p tag 0 []) s = .next
      { s.answers t p tag .ok [BitVec.ofNat 8 (portCode p)] with grant := some p }) ∧
    (s.grant = some p → exec (.requestGrant t p tag 0 []) s = .next
      (s.answers t p tag .already [BitVec.ofNat 8 (portCode p)])) ∧
    (∀ q, s.grant = some q → q ≠ p → exec (.requestGrant t p tag 0 []) s = .next
      (s.answers t p tag .grantHeld [BitVec.ofNat 8 (portCode q)])) ∧
    (s.grant = some p → exec (.releaseGrant t p tag 0 []) s = .next
      { s.answers t p tag .ok [] with grant := none }) ∧
    (s.grant ≠ some p → exec (.releaseGrant t p tag 0 []) s = .next (s.answers t p tag .notGranted []))

/-- SET_QUOTA from the holder of the grant sets the named port's quota, whatever that port's session (R126). -/
def Obligations.SetQuotaSetsTheNamedPortsQuota : Prop :=
  ∀ (t : Nat) (p q : Port) (tag : Tag) (n : Nat) (s : State), s.Admits p → s.grant = some p → n ≤ 128 →
    exec (.setQuota t p tag 0 [BitVec.ofNat 8 (portCode q), BitVec.ofNat 8 n]) s = .next
      { s.advanceTo t with
        ports := s.ports.mapPort fun r ps =>
          let ps := if r = q then { ps with quota := n } else ps
          if r = p then
            ps.answered (max s.now t) tag .ok
              [BitVec.ofNat 8 (portCode q), BitVec.ofNat 8 n,
               BitVec.ofNat 8 (s.slotsWith fun e => decide (e.owner = q))]
          else ps }

/-! ### Tracker requests -/

/-- SET_TRACKER in STOPPED replaces the record and restarts both channels (R5, R18); which sample is the next one, and
that the request's own tick's counts as taken before it where no later command takes it, is log entries 10 and 26. -/
def Obligations.SetTrackerReplacesTheRecord : Prop :=
  ∀ (t : Nat) (p : Port) (tag : Tag) (c : TrackerConfig) (s : State), s.Admits p → s.grant = some p →
    s.tracker.state = .stopped → c.Legal →
    exec (.setTracker t p tag 0 c.bytes) s = .next
      { s.answers t p tag .ok [] with
        tracker := { s.tracker with config := c }
        markChannel :=
          { pin := s.markChannel.pin, filtered := .awaiting (max s.now t), hold := none,
            sampled := s.markChannel.sampled }
        indexChannel :=
          { pin := s.indexChannel.pin, filtered := .awaiting (max s.now t), hold := none,
            sampled := s.indexChannel.sampled } }

/-- START_TRACKER in STOPPED or LOST begins acquisition (R17, R19). -/
def Obligations.StartTrackerBeginsAcquisition : Prop :=
  ∀ (t : Nat) (p : Port) (tag : Tag) (s : State), s.Admits p → s.grant = some p →
    s.tracker.state = .stopped ∨ s.tracker.state = .lost →
    exec (.startTracker t p tag 0 []) s = .next
      { s.advanceTo t with
        tracker :=
          { state := .acquiring, config := s.tracker.config, ring := [], estimate := 0, reference := none,
            markPos := none, coast := 0, indexSeen := false, indexPending := false, missed := 0, cycle := 0,
            phase := none }
        ports := s.ports.mapPort fun q ps =>
          let ps := if q = p then ps.afterFrame (max s.now t) else ps
          let ps :=
            if ps.isOpen && ps.mask.state then
              ps.arrive { phase := none, cycle := 0, payload := .state s.tracker.state .acquiring .start }
            else ps
          if q = p then ps.replied tag .ok [] else ps }

/-- STOP_TRACKER in every state (R17, R20, R50, R70, R104). -/
def Obligations.StopTrackerEndsTracking : Prop :=
  ∀ (t : Nat) (p : Port) (tag : Tag) (s : State), s.Admits p → s.grant = some p →
    (s.tracker.state = .stopped → exec (.stopTracker t p tag 0 []) s = .next (s.answers t p tag .ok [])) ∧
    (s.tracker.state ≠ .stopped → exec (.stopTracker t p tag 0 []) s = .next
      { (if s.tracker.state = .locked ∨ s.tracker.state = .coasting then (s.advanceTo t).untracked
         else s.advanceTo t) with
        tracker :=
          { state := .stopped, config := s.tracker.config, ring := [], estimate := 0, reference := none,
            markPos := none, coast := 0, indexSeen := false, indexPending := false, missed := 0,
            cycle := s.tracker.cycle, phase := none }
        ports := s.ports.mapPort fun q ps =>
          let ps := if q = p then ps.afterFrame (max s.now t) else ps
          let ps :=
            if ps.isOpen && ps.mask.state then
              ps.arrive
                { phase := none, cycle := s.tracker.cycle, payload := .state s.tracker.state .stopped .stop }
            else ps
          if q = p then ps.replied tag .ok [] else ps })

/-- READ_TRACKER and READ_HISTORY answer in every tracker state with the layouts of Table 9-8 and change nothing else
(R15, R42). -/
def Obligations.TrackerIsReadWithoutChange : Prop :=
  ∀ (t : Nat) (p : Port) (tag : Tag) (s : State), s.Admits p →
    exec (.readTracker t p tag 0 []) s = .next (s.answers t p tag .ok
      ([s.tracker.state.code, if s.tracker.phase = none then 0 else 1] ++ leBytes 2 (s.tracker.phase.getD 0) ++
        [match s.tracker.markPos with
         | none => 0xFF
         | some k => BitVec.ofNat 8 k] ++
        leBytes 4 s.tracker.cycle.toNat ++ leBytes 4 s.tracker.estimate ++
        leBytes 4 (s.tracker.estimate * s.tracker.config.marks) ++
        [BitVec.ofNat 8 s.tracker.coast, BitVec.ofNat 8 s.tracker.missed, if s.tracker.indexSeen then 1 else 0])) ∧
    exec (.readHistory t p tag 0 []) s = .next (s.answers t p tag .ok
      ([BitVec.ofNat 8 s.tracker.ring.length] ++ (s.tracker.ring.map (leBytes 4)).flatten ++
        leBytes 4 s.tracker.estimate ++ [BitVec.ofNat 8 s.tracker.config.avgDepth]))

/-! ### Line requests -/

/-- The table of R96. -/
def Obligations.ClaimLineFollowsItsTable : Prop :=
  ∀ (t : Nat) (p : Port) (tag : Tag) (a : ClaimArgs) (s : State), s.Admits p →
    ((s.line a.line).owner = none → exec (.claimLine t p tag 0 a.bytes) s = .next
      { s.answers t p tag .ok [0] with
        lines := s.lines.set a.line
          { s.line a.line with
            owner := some p, mode := .safe, polarity := a.polarity, safeLevel := a.safeLevel, active := false,
            pulse := .none } }) ∧
    ((s.line a.line).owner = some p →
      exec (.claimLine t p tag 0 a.bytes) s = .next (s.answers t p tag .already [0])) ∧
    (∀ q, (s.line a.line).owner = some q → q ≠ p →
      (p ∈ (s.line a.line).waiting.map (·.port) → exec (.claimLine t p tag 0 a.bytes) s = .next
        (s.answers t p tag .already [BitVec.ofNat 8 ((s.line a.line).placeOf p)])) ∧
      (p ∉ (s.line a.line).waiting.map (·.port) → a.wait = false ∨ 3 ≤ (s.line a.line).waiting.length →
        exec (.claimLine t p tag 0 a.bytes) s = .next (s.answers t p tag .lineTaken [0])) ∧
      (p ∉ (s.line a.line).waiting.map (·.port) → a.wait = true → (s.line a.line).waiting.length < 3 →
        exec (.claimLine t p tag 0 a.bytes) s = .next
          { s.answers t p tag .queued [BitVec.ofNat 8 ((s.line a.line).waiting.length + 1)] with
            lines := s.lines.set a.line
              { s.line a.line with
                waiting := (s.line a.line).waiting ++
                  [{ port := p, polarity := a.polarity, safeLevel := a.safeLevel }] } }))

/-- RELEASE_LINE from a port that is not the owner: R99. -/
def Obligations.ReleaseFromAnotherPortIsImmediate : Prop :=
  ∀ (t : Nat) (p : Port) (tag : Tag) (l : Line) (s : State), s.Admits p → (s.line l).owner ≠ some p →
    (p ∈ (s.line l).waiting.map (·.port) →
      exec (.releaseLine t p tag 0 [BitVec.ofNat 8 l.val]) s = .next
        { s.answers t p tag .ok [] with
          lines := s.lines.set l
            { s.line l with waiting := (s.line l).waiting.filter fun w => decide (w.port ≠ p) } }) ∧
    (p ∉ (s.line l).waiting.map (·.port) →
      exec (.releaseLine t p tag 0 [BitVec.ofNat 8 l.val]) s = .next (s.answers t p tag .notOwner []))

/-- The table of R102: `run` is true for RUN (code 3) and false for SAFE (code 1). -/
def Obligations.SetLineModeFollowsItsTable : Prop :=
  ∀ (t : Nat) (p : Port) (tag : Tag) (l : Line) (s : State), s.Admits p →
    ((s.line l).owner ≠ some p → ∀ m : Byte, m = 1 ∨ m = 3 →
      exec (.setLineMode t p tag 0 [BitVec.ofNat 8 l.val, m]) s = .next (s.answers t p tag .notOwner [])) ∧
    ((s.line l).owner = some p →
      ((s.line l).mode = .safe → exec (.setLineMode t p tag 0 [BitVec.ofNat 8 l.val, 3]) s = .next
        { s.answers t p tag .ok [2] with lines := s.lines.set l { s.line l with mode := .ready } }) ∧
      ((s.line l).mode = .ready ∨ (s.line l).mode = .run →
        exec (.setLineMode t p tag 0 [BitVec.ofNat 8 l.val, 3]) s = .next
          (s.answers t p tag .already [BitVec.ofNat 8 (s.line l).mode.code])) ∧
      ((s.line l).mode = .safe → exec (.setLineMode t p tag 0 [BitVec.ofNat 8 l.val, 1]) s = .next
        (s.answers t p tag .already [1])) ∧
      ((s.line l).mode = .ready ∨ (s.line l).mode = .run →
        exec (.setLineMode t p tag 0 [BitVec.ofNat 8 l.val, 1]) s = .next
          { s.answers t p tag .ok [1] with lines := s.lines.set l (s.line l).safed }))

/-! ### Table requests -/

/-- INSERT_ENTRY, DELETE_ENTRY, CLEAR_LINE_ENTRIES and the owner's RELEASE_LINE, which puts the line in SAFE, post their
jobs and wait; the first and third are refused with NOT_OWNER (R45, R55, R59, R61, R62, R63, R98, R141). The count of
draws is the model's own (log entries 5 and 20). -/
def Obligations.LongRequestsPostTheirJobs : Prop :=
  ∀ (t : Nat) (p : Port) (tag : Tag) (s : State), s.Admits p →
    (∀ f : EntryFields, f.Legal →
      ((s.line f.line).owner = some p → exec (.insertEntry t p tag 0 f.bytes) s = .next
        { s.advanceTo t with
          draws := s.draws + 1
          ports := s.ports.set p ((s.port p).begun (max s.now t) .insertEntry tag)
          engine :=
            Engine.choose { s.engine with waiting := s.engine.waiting.set p (some (.insertion f)) }
              (max s.now t) s.draws }) ∧
      ((s.line f.line).owner ≠ some p →
        exec (.insertEntry t p tag 0 f.bytes) s = .next (s.answers t p tag .notOwner []))) ∧
    (∀ id : EntryId, exec (.deleteEntry t p tag 0 [BitVec.ofNat 8 id.val]) s = .next
      { s.advanceTo t with
        draws := s.draws + 1
        ports := s.ports.set p ((s.port p).begun (max s.now t) .deleteEntry tag)
        engine :=
          Engine.choose { s.engine with waiting := s.engine.waiting.set p (some (.entryDeletion id)) }
            (max s.now t) s.draws }) ∧
    (∀ l : Line,
      ((s.line l).owner = some p → exec (.clearLineEntries t p tag 0 [BitVec.ofNat 8 l.val]) s = .next
        { s.advanceTo t with
          draws := s.draws + 1
          ports := s.ports.set p ((s.port p).begun (max s.now t) .clearLineEntries tag)
          engine :=
            Engine.choose { s.engine with waiting := s.engine.waiting.set p (some (.lineClear l)) }
              (max s.now t) s.draws }) ∧
      ((s.line l).owner = some p → exec (.releaseLine t p tag 0 [BitVec.ofNat 8 l.val]) s = .next
        { s.advanceTo t with
          draws := s.draws + 1
          lines := s.lines.set l (s.line l).safed
          ports := s.ports.set p ((s.port p).begun (max s.now t) .releaseLine tag)
          engine :=
            Engine.choose { s.engine with waiting := s.engine.waiting.set p (some (.releaseDeletion l)) }
              (max s.now t) s.draws }) ∧
      ((s.line l).owner ≠ some p →
        exec (.clearLineEntries t p tag 0 [BitVec.ofNat 8 l.val]) s = .next (s.answers t p tag .notOwner [])))

/-- READ_ENTRY and LIST_ENTRIES show a port its own entries and change nothing else (R66, R67). -/
def Obligations.EntriesAreReadWithoutChange : Prop :=
  ∀ (t : Nat) (p : Port) (tag : Tag) (id : EntryId) (s : State), s.Admits p →
    (s.slot id = none →
      exec (.readEntry t p tag 0 [BitVec.ofNat 8 id.val]) s = .next (s.answers t p tag .noEntry [])) ∧
    (∀ e, s.slot id = some e → e.owner ≠ p →
      exec (.readEntry t p tag 0 [BitVec.ofNat 8 id.val]) s = .next (s.answers t p tag .notOwner [])) ∧
    (∀ e, s.slot id = some e → e.owner = p →
      exec (.readEntry t p tag 0 [BitVec.ofNat 8 id.val]) s = .next (s.answers t p tag .ok
        ([BitVec.ofNat 8 id.val, BitVec.ofNat 8 (portCode p)] ++ e.fields.bytes ++ [e.status.code] ++
          leBytes 4 e.seq.toNat ++ leBytes 2 e.effective ++ [if e.clamped then 1 else 0]))) ∧
    ∃ shown : List EntryId,
      shown = (List.finRange 128).filter (fun i => decide (id ≤ i) && (s.slot i).any fun e => decide (e.owner = p)) ∧
      exec (.listEntries t p tag 0 [BitVec.ofNat 8 id.val]) s = .next (s.answers t p tag .ok
        ([BitVec.ofNat 8 (min 16 shown.length), if 16 < shown.length then 1 else 0] ++
          (shown.take 16).flatMap fun i =>
            [BitVec.ofNat 8 i.val,
             match s.slot i with
             | some e => e.status.code
             | none => 0]))

/-! ### Event and attention requests -/

/-- READ_EVENTS removes the oldest records and answers with them (R151, R153). -/
def Obligations.ReadEventsRemovesTheOldest : Prop :=
  ∀ (t : Nat) (p : Port) (tag : Tag) (n : Nat) (s : State), s.Admits p → 1 ≤ n → n ≤ 4 →
    exec (.readEvents t p tag 0 [BitVec.ofNat 8 n]) s = .next ((s.advanceTo t).setPort p
      (PortState.answered
        { s.port p with
          queue := (s.port p).queue.drop n
          attention :=
            if (s.port p).queue = [] then (s.port p).attention
            else (s.port p).attention.atDepth ((s.port p).queue.length - n) }
        (max s.now t) tag .ok
        ([BitVec.ofNat 8 (min n (s.port p).queue.length)] ++ ((s.port p).queue.take n).flatMap EventRecord.bytes ++
          [BitVec.ofNat 8 ((s.port p).queue.length - n)])))

/-- SET_EVENT_MASK and SET_ATTENTION replace their settings at once and answer with them; SET_ATTENTION re-evaluates
the WATERMARK condition without latching (R147, R156). -/
def Obligations.SettingsAreReplacedAtOnce : Prop :=
  ∀ (t : Nat) (p : Port) (tag : Tag) (s : State), s.Admits p →
    (∀ (m : EventMask) (k : Nat), k ≤ 255 →
      exec (.setEventMask t p tag 0 [m.byte, BitVec.ofNat 8 k]) s = .next ((s.advanceTo t).setPort p
        (PortState.answered { s.port p with mask := m, interval := k } (max s.now t) tag .ok
          [m.byte, BitVec.ofNat 8 k]))) ∧
    ∀ a : AttentionArgs, 1 ≤ a.watermark → a.watermark ≤ 31 →
      exec (.setAttention t p tag 0 a.bytes) s = .next ((s.advanceTo t).setPort p
        (PortState.answered
          { s.port p with
            attention :=
              { enables := a.enables
                watermarkEdge := a.watermarkEdge
                nonemptyEdge := a.nonemptyEdge
                watermark := a.watermark
                latched := (s.port p).attention.latched
                watermarkHolds := decide (a.watermark ≤ (s.port p).queue.length)
                nonemptyHolds := (s.port p).attention.nonemptyHolds } }
          (max s.now t) tag .ok
          [a.enables.byte,
           BitVec.ofNat 8 (edgeCode a.watermarkEdge + 4 * edgeCode a.nonemptyEdge),
           BitVec.ofNat 8 a.watermark]))

/-- ACK_ATTENTION clears the named latches after its own reply has latched REPLY (R157). -/
def Obligations.AckClearsAfterItsOwnReplyLatches : Prop :=
  ∀ (t : Nat) (p : Port) (tag : Tag) (c : CauseSet) (s : State), s.Admits p →
    exec (.ackAttention t p tag 0 [c.byte]) s = .next ((s.advanceTo t).setPort p
      { (s.port p).answered (max s.now t) tag .ok
          [((s.port p).attention.latched.withReply.without c).byte] with
        attention :=
          { (s.port p).attention with latched := (s.port p).attention.latched.withReply.without c } })

/-! ### The conditioner -/

/-- What a channel recognises and when, and the events of a channel that hand on nothing: a hold that begins, a hold that
is abandoned, a transition that is not delivered; with F = 0 a hold completes at the sample that begins it, and the edge
it delivers is handed on as MARK or INDEX_EDGE hands it (R1 to R6). That each tick has one sample is log entry 26, the
first sample after a reset or a SET_TRACKER log entry 10, the sample that begins nothing log entry 7, and the INDEX
channel with INDEX_USE OFF log entry 18. -/
def Obligations.ConditionerFollowsItsInput : Prop :=
  (∀ (c : ChannelState) (f now n : Nat) (e : Edge), c.recognised f now = some (e, n) ↔
    c.sampled ≠ some now ∧ ∃ l, c.filtered = .level l ∧ e = l.leaving ∧
      ((c.hold = some n ∧ n + f ≤ now) ∨ (c.hold = none ∧ f = 0 ∧ n = now))) ∧
  (∀ (t : Nat) (ch : Channel) (sample : Level) (s : State),
    (((s.advanceTo t).channel ch).sampled = some (max s.now t) →
      exec (.conditionerHoldBegins t ch sample) s = .next (s.advanceTo t)) ∧
    (∀ since, ((s.advanceTo t).channel ch).filtered = .awaiting since →
      ((s.advanceTo t).channel ch).sampled ≠ some (max s.now t) →
      exec (.conditionerHoldBegins t ch sample) s = .next ((s.advanceTo t).setChannel ch
        { pin := sample, filtered := .level sample, hold := none, sampled := some (max s.now t) })) ∧
    ∀ l, ((s.advanceTo t).channel ch).filtered = .level l →
      (((s.advanceTo t).channel ch).hold ≠ none ∨ sample = l →
        exec (.conditionerHoldBegins t ch sample) s = .next (s.advanceTo t)) ∧
      (((s.advanceTo t).channel ch).hold = none → sample ≠ l →
        ((s.advanceTo t).channel ch).sampled ≠ some (max s.now t) →
        (s.tracker.config.filterOf ch ≠ 0 →
          exec (.conditionerHoldBegins t ch sample) s = .next ((s.advanceTo t).setChannel ch
            { pin := sample, filtered := .level l, hold := some (max s.now t), sampled := some (max s.now t) })) ∧
        (s.tracker.config.filterOf ch = 0 →
          (¬s.tracker.config.Selects ch l.leaving →
            exec (.conditionerHoldBegins t ch sample) s = .next ((s.advanceTo t).setChannel ch
              { pin := sample, filtered := .level sample, hold := none, sampled := some (max s.now t) })) ∧
          (s.tracker.config.Selects ch l.leaving →
            (s.advanceTo t).delivered ch = some (max s.now t) ∧
              exec (.conditionerHoldBegins t ch sample) s = exec (ch.edgeCommand t) s)))) ∧
  (∀ (t n : Nat) (ch : Channel) (l : Level) (s : State), ((s.advanceTo t).channel ch).filtered = .level l →
    ((s.advanceTo t).channel ch).hold = some n → ((s.advanceTo t).channel ch).sampled ≠ some (max s.now t) →
    max s.now t ≤ n + s.tracker.config.filterOf ch →
    exec (.conditionerHoldAbandoned t ch) s = .next ((s.advanceTo t).setChannel ch
      { pin := l, filtered := .level l, hold := none, sampled := some (max s.now t) })) ∧
  ∀ (t : Nat) (ch : Channel) (l : Level) (s : State), ((s.advanceTo t).channel ch).filtered = .level l →
    ((s.advanceTo t).channel ch).sampled ≠ some (max s.now t) →
    ((∃ n, ((s.advanceTo t).channel ch).hold = some n ∧ n + s.tracker.config.filterOf ch ≤ max s.now t) ∨
      ((s.advanceTo t).channel ch).hold = none ∧ s.tracker.config.filterOf ch = 0) →
    ¬s.tracker.config.Selects ch l.leaving →
    exec (.unselectedTransition t ch) s = .next ((s.advanceTo t).setChannel ch
      { pin := (match l with | .low => .high | .high => .low)
        filtered := .level (match l with | .low => .high | .high => .low)
        hold := none
        sampled := some (max s.now t) })

/-! ### Marks and index edges -/

/-- A mark that finds the tracker STOPPED, or LOST with AUTO_REACQUIRE OFF, leaves no trace outside its channel; with
AUTO_REACQUIRE ON it begins reacquisition (R4, R21, R41). The lock at that one mark needs an AVG_DEPTH of 0, which no
record holds. -/
def Obligations.MarkInStoppedOrLost : Prop :=
  ∀ (t n : Nat) (s : State), (s.advanceTo t).delivered .mark = some n →
    ((s.tracker.state = .stopped ∨ s.tracker.state = .lost ∧ s.tracker.config.autoReacquire = false) →
      exec (.mark t) s = .next ((s.advanceTo t).completeHold .mark)) ∧
    (s.tracker.state = .lost → s.tracker.config.autoReacquire = true → 1 ≤ s.tracker.config.avgDepth →
      exec (.mark t) s = .next
        { (s.advanceTo t).completeHold .mark with
          tracker :=
            { state := .acquiring, config := s.tracker.config, ring := [], estimate := 0,
              reference := some { time := n, kind := .genuine },
              markPos := if s.tracker.config.indexUse then none else some 0, coast := 0, indexSeen := false,
              indexPending := false, missed := 0, cycle := s.tracker.cycle, phase := none }
          ports := s.ports.mapPort fun _ ps =>
            if ps.isOpen && ps.mask.state then
              ps.arrive { phase := none, cycle := s.tracker.cycle, payload := .state .lost .acquiring .auto }
            else ps })

/-- A mark in ACQUIRING is taken with its interval and position, and completes acquisition when the ring holds D
intervals and the position is defined (R10, R21, R23, R31, R70). What an interval of 0 does is log entry 11. -/
def Obligations.MarkInAcquiringIsTakenAndMayLock : Prop :=
  ∀ (t n : Nat) (s : State), (s.advanceTo t).delivered .mark = some n → s.tracker.state = .acquiring →
    (¬(s.tracker.config.avgDepth ≤ (s.tracker.acquired n).ring.length ∧ (s.tracker.positionTaken).isSome = true) →
      exec (.mark t) s = .next { (s.advanceTo t).completeHold .mark with tracker := s.tracker.acquired n }) ∧
    (∀ k ph, s.tracker.config.avgDepth ≤ (s.tracker.acquired n).ring.length → s.tracker.positionTaken = some k →
      ph = phaseFormula s.tracker.config.marks (s.tracker.acquired n).estimate k (max s.now t - n) →
      exec (.mark t) s = .next
        { (s.advanceTo t).completeHold .mark with
          tracker := { s.tracker.acquired n with state := .locked, coast := 0, phase := some ph }
          walkPos := .reached ph
          ports := s.ports.mapPort fun _ ps =>
            if ps.isOpen && ps.mask.state then
              ps.arrive { phase := some ph, cycle := s.tracker.cycle, payload := .state .acquiring .locked .lock }
            else ps })

/-- R24: a mark below the early bound, or at or before the reference (t = 0), is rejected, and only MARK_REJECTED is
posted. That t = 0 is rejected also where the early bound is 0 is log entry 24. -/
def Obligations.EarlyMarkIsRejected : Prop :=
  ∀ (t n : Nat) (r : Reference) (s : State), (s.advanceTo t).delivered .mark = some n →
    s.tracker.state = .locked ∨ s.tracker.state = .coasting → s.tracker.reference = some r →
    n ≤ r.time ∨ n - r.time < s.tracker.estimate * (16 - s.tracker.config.early) / 16 →
    exec (.mark t) s = .next
      { (s.advanceTo t).completeHold .mark with
        ports := s.ports.mapPort fun _ ps =>
          if ps.isOpen && ps.mask.markRejected then ps.arrive (s.stamp (.markRejected (n - r.time))) else ps }

/-- A mark after the reference and at or above the early bound is accepted: steps 1, 2 and 4 of R25 and the rules of R12,
R14 on the ring, and then the steps that the next four statements describe. That a mark at t = 0 is not accepted where
the early bound is 0 is log entry 24. -/
def Obligations.AcceptedMarkTakesItsSteps : Prop :=
  ∀ (t n : Nat) (r : Reference) (s : State), (s.advanceTo t).delivered .mark = some n →
    s.tracker.state = .locked ∨ s.tracker.state = .coasting → s.tracker.reference = some r →
    r.time < n → s.tracker.estimate * (16 - s.tracker.config.early) / 16 ≤ n - r.time →
    exec (.mark t) s =
      .next (State.stepMark { (s.advanceTo t).completeHold .mark with tracker := s.tracker.accepted r n }
        .locked .relock)

/-- A mark or substitution that raises no boundary: the position, the phase of R29, a slip under REPORT, the STATE record
and one advance (R25, R26, R29, R30, R35, R37). That SLIP carries the phase of before the mark is log entry 25. -/
def Obligations.StepWithoutABoundary : Prop :=
  ∀ (new : TrackerState) (cause : StateCause) (k ph : Nat) (r : Reference) (s : State),
    s.tracker.reference = some r → s.tracker.markPos = some k → k + 1 < s.tracker.config.marks →
    (s.tracker.indexPending = true → s.tracker.config.slipPolicy = .report) →
    ph = phaseFormula s.tracker.config.marks s.tracker.estimate (k + 1) (s.now - r.time) →
    s.stepMark new cause =
      (let moved : State :=
        { s with
          tracker :=
            { s.tracker with state := new, markPos := some (k + 1), indexPending := false, phase := some ph } }
       let told :=
        if s.tracker.state = new then moved
        else moved.post (fun _ ps => ps.isOpen && ps.mask.state)
          { phase := some ph, cycle := s.tracker.cycle, payload := .state s.tracker.state new cause }
       let slipped :=
        if s.tracker.indexPending then
          told.post (fun _ ps => ps.isOpen && ps.mask.slip)
            { phase := s.tracker.phase, cycle := s.tracker.cycle, payload := .slip (k + 1) 0 }
        else told
       slipped.advanceWalk s.tracker.cycle ph)

/-- A mark or substitution that raises a boundary, at a natural wrap (R32, R38) or an ALIGN slip (R36, R76): the three
parts of R33, with the new cycle number, P and the phase of the new cycle. That STATE and INDEX_MISSED come before the
old cycle's records is log entry 12. -/
def Obligations.BoundaryIsHandedOverInThreeParts : Prop :=
  ∀ (new : TrackerState) (cause : StateCause) (k ph : Nat) (r : Reference) (s : State),
    s.tracker.reference = some r → s.tracker.markPos = some k →
    ph = phaseFormula s.tracker.config.marks s.tracker.estimate 0 (s.now - r.time) →
    (k + 1 = s.tracker.config.marks → ¬s.tracker.losingWrap k →
      s.stepMark new cause =
        (let missed :=
          if s.tracker.config.indexUse = true then (if s.tracker.indexSeen then 0 else 1) else s.tracker.missed
         let opened : State :=
          { s with
            tracker :=
              { s.tracker with
                state := new, markPos := some 0, indexPending := false, indexSeen := false, missed := missed,
                cycle := s.tracker.cycle + 1, phase := some ph } }
         let told :=
          if s.tracker.state = new then opened
          else opened.post (fun _ ps => ps.isOpen && ps.mask.state)
            { phase := some ph, cycle := s.tracker.cycle + 1, payload := .state s.tracker.state new cause }
         let counted :=
          if s.tracker.config.indexUse = true ∧ s.tracker.indexSeen = false then
            told.post (fun _ ps => ps.isOpen && ps.mask.indexMissed)
              { phase := some ph, cycle := s.tracker.cycle + 1, payload := .indexMissed 1 }
          else told
         ((counted.advanceWalk s.tracker.cycle 4095).takeBoundary (s.tracker.estimate * s.tracker.config.marks)
            (s.tracker.cycle + 1) ph none).advanceWalk (s.tracker.cycle + 1) ph)) ∧
    (k + 1 < s.tracker.config.marks → s.tracker.indexPending = true → s.tracker.config.slipPolicy = .align →
      s.stepMark new cause =
        (let opened : State :=
          { s with
            tracker :=
              { s.tracker with
                state := new, markPos := some 0, indexPending := false, indexSeen := false, missed := 0,
                cycle := s.tracker.cycle + 1, phase := some ph } }
         let told :=
          if s.tracker.state = new then opened
          else opened.post (fun _ ps => ps.isOpen && ps.mask.state)
            { phase := some ph, cycle := s.tracker.cycle + 1, payload := .state s.tracker.state new cause }
         let cut : State :=
          { told with
            lines := told.lines.map fun l =>
              match l.pulse with
              | .phaseEnd _ _ endPhase c =>
                if c = s.tracker.cycle ∧ s.walkPos.below endPhase = true then
                  { l with active := false, pulse := .none }
                else l
              | _ => l }
         let dropped := s.slotsWith fun e => decide (e.status = .active) && s.walkPos.below e.effective
         (cut.takeBoundary (s.tracker.estimate * s.tracker.config.marks) (s.tracker.cycle + 1) ph
            (some (k + 1, dropped))).advanceWalk (s.tracker.cycle + 1) ph))

/-- A losing wrap: INDEX_MISSED 2 with the invalid phase, then LOST with cause INDEX, and no boundary and no advance
(R38, R40). -/
def Obligations.LosingWrapLosesTracking : Prop :=
  ∀ (new : TrackerState) (cause : StateCause) (k : Nat) (s : State), s.tracker.markPos = some k →
    s.tracker.losingWrap k →
    s.stepMark new cause =
      State.post
        (State.post
          { s.untracked with tracker := { s.tracker with missed := 2 }.lost }
          (fun _ ps => ps.isOpen && ps.mask.indexMissed)
          { phase := none, cycle := s.tracker.cycle, payload := .indexMissed 2 })
        (fun _ ps => ps.isOpen && ps.mask.state)
        { phase := none, cycle := s.tracker.cycle, payload := .state s.tracker.state .lost .index }

/-- An index edge sets both flags in ACQUIRING, LOCKED and COASTING and changes nothing else; in STOPPED and LOST it is
ignored (R4, R22, R34, R41). -/
def Obligations.IndexEdgeArmsTheCheck : Prop :=
  ∀ (t n : Nat) (s : State), (s.advanceTo t).delivered .index = some n →
    ((s.tracker.state = .acquiring ∨ s.tracker.state = .locked ∨ s.tracker.state = .coasting) →
      exec (.indexEdge t) s = .next
        { (s.advanceTo t).completeHold .index with
          tracker := { s.tracker with indexSeen := true, indexPending := true } }) ∧
    ((s.tracker.state = .stopped ∨ s.tracker.state = .lost) →
      exec (.indexEdge t) s = .next ((s.advanceTo t).completeHold .index))

/-- The no-mark limit of ACQUIRING (R11). -/
def Obligations.NoMarkLimitClearsTheRing : Prop :=
  ∀ (t : Nat) (r : Reference) (s : State), s.tracker.state = .acquiring → s.tracker.reference = some r →
    8388608 ≤ max s.now t - r.time →
    exec (.noMarkLimit t) s = .next
      { s.advanceTo t with tracker := { s.tracker with ring := [], estimate := 0, reference := none } }

/-- The late timeout substitutes a mark while the coast count is below COAST_LIMIT (R26), and loses tracking with cause
LIMIT when it is not (R27, R40). -/
def Obligations.LateTimeoutSubstitutesOrLosesTracking : Prop :=
  ∀ (t k : Nat) (r : Reference) (s : State), s.tracker.state = .locked ∨ s.tracker.state = .coasting →
    s.tracker.reference = some r → s.tracker.markPos = some k → k < s.tracker.config.marks →
    s.tracker.estimate * (16 + s.tracker.config.late) / 16 ≤ max s.now t - r.time →
    (s.tracker.coast < s.tracker.config.coastLimit → ∃ u,
      u = State.stepMark { s.advanceTo t with tracker := s.tracker.substituted r } .coasting .coast ∧
      (s.tracker.losingWrap k → exec (.lateTimeout t) s = .next u) ∧
      (¬s.tracker.losingWrap k → exec (.lateTimeout t) s = .next
        (u.post (fun _ ps => ps.isOpen && ps.mask.markSubstituted)
          (u.stamp (.markSubstituted (s.tracker.coast + 1)))))) ∧
    (s.tracker.config.coastLimit ≤ s.tracker.coast → exec (.lateTimeout t) s = .next
      { (s.advanceTo t).untracked with
        tracker := s.tracker.lost
        ports := s.ports.mapPort fun _ ps =>
          if ps.isOpen && ps.mask.state then
            ps.arrive { phase := none, cycle := s.tracker.cycle, payload := .state s.tracker.state .lost .limit }
          else ps })

/-- The per-tick rise: the phase count of R29, never beyond 4095, handed to the walker as one advance (R30). -/
def Obligations.PhaseRisesAsElapsedTime : Prop :=
  ∀ (t k a ph : Nat) (r : Reference) (s : State), s.tracker.state = .locked ∨ s.tracker.state = .coasting →
    s.tracker.reference = some r → s.tracker.markPos = some k → s.tracker.phase = some a →
    ph = phaseFormula s.tracker.config.marks s.tracker.estimate k (max s.now t - r.time) →
    (s.tracker.config.marks ∈ [1, 2, 4, 8, 16, 32, 64] → k < s.tracker.config.marks →
      k * (4096 / s.tracker.config.marks) ≤ ph ∧ ph < (k + 1) * (4096 / s.tracker.config.marks) ∧ ph ≤ 4095) ∧
    (a < ph → exec (.phaseRise t) s = .next
      (State.advanceWalk { s.advanceTo t with tracker := { s.tracker with phase := some ph } } s.tracker.cycle ph)) ∧
    (ph ≤ a → exec (.phaseRise t) s = .next (s.advanceTo t))

/-! ### The walker and the boundary -/

/-- The walk order is the ACTIVE entries, each once, in the order of R54; how the sequences compare across a wrap of their
counter is log entry 14. -/
def Obligations.WalkOrderIsTheOrderOfTheManual : Prop :=
  ∀ s : State,
    (∀ id e, (id, e) ∈ s.walkOrder ↔ s.slot id = some e ∧ e.status = .active) ∧
    (s.walkOrder.map (·.1)).Nodup ∧ s.walkOrder.Pairwise fun x y => x.2.walksBefore y.2

/-- An ACTIVE entry that the walker reaches fires, with the effects of R78, R84 to R88, R91 and R92, or is passed
without effect (R81). -/
def Obligations.ReachedEntryFiresOrIsPassed : Prop :=
  ∀ (id : EntryId) (e : Entry) (cycle : Count32) (last : Nat) (s : State), s.slot id = some e →
    (¬s.Fires id e cycle → s.reach cycle last id = s) ∧
    (s.Fires id e cycle →
      s.reach cycle last id =
        { s with
          lastFired := s.lastFired.set id (some cycle)
          lines := s.lines.set e.fields.line
            { s.line e.fields.line with
              active := decide (e.fields.action ≠ .clear)
              pulse :=
                match e.fields.action with
                | .set => .none
                | .clear => .none
                | .pulse .phase w =>
                  if e.effective + w ≤ 4095 then .phaseEnd id e.seq (e.effective + w) cycle
                  else .phaseEnd id e.seq (e.effective + w - 4096) (cycle + 1)
                | .pulse .time w => .timeEnd id e.seq (s.now + w) }
          ports := s.ports.mapPort fun q ps =>
            if (e.fields.notify = true ∨ e.fields.filter = .once) ∧ q = e.owner ∧ ps.isClosed = false then
              ps.arrive
                { phase := some last, cycle := cycle,
                  payload := .fired id e.fields.line e.fields.label (decide (e.fields.filter = .once)) }
            else ps
          slots := if e.fields.filter = .once then s.slots.set id (some { e with status := .spent }) else s.slots
          engine :=
            if e.fields.filter = .once then
              Engine.choose { s.engine with internal := s.engine.internal ++ [.spentRemoval id e.seq] } s.now s.draws
            else s.engine
          draws := if e.fields.filter = .once then s.draws + 1 else s.draws })

/-- An advance from the walk position to `hi` takes the least phase at which something is due, then the rest of the range
as an advance from there, and with nothing due only moves the walk position (R71); one phase is its pulse ends and then
its entries in walk order (R72). So every entry due in the range that can fire fires. It leaves the walk position at `hi`,
no pulse end of this cycle in the range walked, and untouched every entry and last-fired record that is not in the range,
every line that is not in RUN, and everything that is neither an entry, a line, a queue nor the engine (R70, R89). -/
def Obligations.AdvanceTakesWhatIsDueAndNothingElse : Prop :=
  ∀ (cycle : Count32) (hi : Nat) (s : State),
    (s.walkPos = .none → s.advanceWalk cycle hi = s) ∧
    (∀ ph, s.takePhase cycle hi ph =
      ((s.walkOrder.filter fun x => decide (x.2.effective = ph)).map (·.1)).foldl (fun u i => u.reach cycle hi i)
        { s with
          lines := s.lines.map fun l =>
            match l.pulse with
            | .phaseEnd _ _ endPhase c =>
              if endPhase = ph ∧ c = cycle then { l with active := false, pulse := .none } else l
            | _ => l }) ∧
    ∀ lo, s.walkPos.next = some lo →
      ((∀ ph, lo ≤ ph → ph ≤ hi → ¬s.DueAt cycle ph) → s.advanceWalk cycle hi = { s with walkPos := .reached hi }) ∧
      (∀ ph, lo ≤ ph → ph ≤ hi → s.DueAt cycle ph → (∀ q, lo ≤ q → q < ph → ¬s.DueAt cycle q) →
        s.advanceWalk cycle hi =
          State.advanceWalk { s.takePhase cycle hi ph with walkPos := .reached ph } cycle hi) ∧
      (∀ i e, s.slot i = some e → lo ≤ e.effective → e.effective ≤ hi → s.Fires i e cycle →
        (s.advanceWalk cycle hi).lastFired.get i = some cycle) ∧
      (s.advanceWalk cycle hi).walkPos = .reached hi ∧
      ((∀ i e w, s.slot i = some e → e.fields.action = .pulse .phase w → 1 ≤ w) →
        ∀ l id seq ph, ((s.advanceWalk cycle hi).line l).pulse = .phaseEnd id seq ph cycle → ph < lo ∨ hi < ph) ∧
      (∀ i, (∀ e, s.slot i = some e → e.status = .active → e.effective < lo ∨ hi < e.effective) →
        (s.advanceWalk cycle hi).slot i = s.slot i ∧
          (s.advanceWalk cycle hi).lastFired.get i = s.lastFired.get i) ∧
      (∀ l, ((s.advanceWalk cycle hi).line l).mode = (s.line l).mode ∧
        ((s.advanceWalk cycle hi).line l).owner = (s.line l).owner ∧
        ((s.advanceWalk cycle hi).line l).waiting = (s.line l).waiting) ∧
      (∀ l, (s.line l).mode ≠ .run → (s.line l).pulse = .none → (s.advanceWalk cycle hi).line l = s.line l) ∧
      (∀ i e, s.slot i = some e → (s.advanceWalk cycle hi).slot i = s.slot i ∨
        e.status = .active ∧ e.fields.filter = .once ∧
          (s.advanceWalk cycle hi).slot i = some { e with status := .spent }) ∧
      (∀ p, ∃ recs : List Record, (s.advanceWalk cycle hi).port p = recs.foldl PortState.arrive (s.port p)) ∧
      (s.advanceWalk cycle hi).tracker = s.tracker ∧ (s.advanceWalk cycle hi).grant = s.grant ∧
      (s.advanceWalk cycle hi).nextSeq = s.nextSeq ∧ (s.advanceWalk cycle hi).hold = s.hold ∧
      (s.advanceWalk cycle hi).markChannel = s.markChannel ∧ (s.advanceWalk cycle hi).indexChannel = s.indexChannel ∧
      (s.advanceWalk cycle hi).now = s.now ∧ (s.advanceWalk cycle hi).pending = s.pending

/-- The second part of a boundary: promotion and effective phases (R49, R52), READY to RUN where HOLD allows (R103), the
walk position (R75) and the records to each port in some order (R36, R53, R148, R150; log entries 4 and 13). -/
def Obligations.BoundaryPromotesComputesAndRuns : Prop :=
  ∀ (period : Nat) (cycle : Count32) (ph : Nat) (slip : Option (Nat × Nat)) (s : State), 1 ≤ period →
    ∃ u, u = s.takeBoundary period cycle ph slip ∧
      (∀ i, s.slot i = none → u.slot i = none) ∧
      (∀ i e, s.slot i = some e → e.status = .spent → u.slot i = some e) ∧
      (∀ i e k, s.slot i = some e → e.status ≠ .spent → e.fields.lead * 4096 ≤ k * period →
        (∀ j < k, j * period < e.fields.lead * 4096) →
        u.slot i = some
          { e with
            status := .active
            effective := e.fields.trigger - k
            clamped := decide (e.fields.trigger < k) }) ∧
      (∀ l, u.line l =
        if (s.line l).mode = .ready ∧ s.hold.pin = .high ∧ s.hold.awaiting = none then
          { s.line l with mode := .run, active := false, pulse := .none }
        else s.line l) ∧
      u.walkPos = .before0 ∧
      (∀ q, (s.port q).isClosed = true → u.port q = s.port q) ∧
      (∀ q, (s.port q).isClosed = false →
        ∃ recs : List Payload,
          recs.Perm
            ((match slip with
              | some (k, dropped) => if (s.port q).isOpen && (s.port q).mask.slip then [.slip k dropped] else []
              | none => []) ++
             ((List.finRange 128).filterMap fun i =>
              match s.slot i, u.slot i with
              | some e, some e' =>
                if e.owner = q ∧ e.clamped = false ∧ e'.clamped = true then
                  some (.leadLimit i e.fields.line e.fields.label)
                else none
              | _, _ => none) ++
             (if (s.port q).isOpen = true ∧ (s.port q).interval ≠ 0 ∧ cycle.toNat % (s.port q).interval = 0 then
                [.cycle]
              else [])) ∧
          u.port q =
            recs.foldl (fun ps x => ps.arrive { phase := some ph, cycle := cycle, payload := x }) (s.port q)) ∧
      u.tracker = s.tracker ∧ u.engine = s.engine ∧ u.lastFired = s.lastFired ∧ u.nextSeq = s.nextSeq ∧
      u.grant = s.grant ∧ u.hold = s.hold ∧ u.markChannel = s.markChannel ∧ u.indexChannel = s.indexChannel ∧
      u.now = s.now ∧ u.pending = s.pending

/-! ### Pulse timers and HOLD -/

/-- A pulse timer that expires ends its pulse with no record (R88, R89). HOLD asserted takes every line out of RUN and is
told to every OPEN session; deasserted it changes no line; the first sample after a reset does neither (R105, R106,
R107). That each tick has one sample is log entry 26. -/
def Obligations.PulseTimersAndHoldQuietTheLines : Prop :=
  ∀ (t : Nat) (s : State),
    (∀ (l : Line) (expires : Nat) (id : EntryId) (seq : Count32), (s.line l).pulse = .timeEnd id seq expires →
      expires ≤ max s.now t →
      exec (.pulseTimerExpiry t l) s = .next
        { s.advanceTo t with lines := s.lines.set l { s.line l with active := false, pulse := .none } }) ∧
    ((s.advanceTo t).hold.pin = .high → (s.advanceTo t).hold.awaiting = none → s.hold.sampled ≠ some (max s.now t) →
      exec (.holdAssertion t) s = .next
        { s.advanceTo t with
          hold := { pin := .low, awaiting := none, sampled := some (max s.now t) }
          lines := s.lines.map fun l =>
            if l.mode = .run then { l with mode := .ready, active := false, pulse := .none } else l
          ports := s.ports.mapPort fun _ ps => if ps.isOpen then ps.arrive (s.stamp (.hold true)) else ps }) ∧
    ((s.advanceTo t).hold.pin = .low → (s.advanceTo t).hold.awaiting = none → s.hold.sampled ≠ some (max s.now t) →
      exec (.holdDeassertion t) s = .next
        { s.advanceTo t with
          hold := { pin := .high, awaiting := none, sampled := some (max s.now t) }
          ports := s.ports.mapPort fun _ ps => if ps.isOpen then ps.arrive (s.stamp (.hold false)) else ps }) ∧
    ((s.advanceTo t).hold.awaiting ≠ none → s.hold.sampled ≠ some (max s.now t) →
      exec (.holdAssertion t) s = .next
        { s.advanceTo t with hold := { pin := .low, awaiting := none, sampled := some (max s.now t) } } ∧
      exec (.holdDeassertion t) s = .next
        { s.advanceTo t with hold := { pin := .high, awaiting := none, sampled := some (max s.now t) } })

/-! ### The Table Engine -/

/-- An idle engine takes the oldest internal job, else the job of the first port after the last served that has one
(R56); a busy one takes none. -/
def Obligations.EngineChoosesInternalJobsThenPortsInTurn : Prop :=
  ∀ (e : Engine) (now draw : Nat),
    (∀ v, e.service = some v → e.choose now draw = e) ∧
    (e.service = none →
      (∀ j rest, e.internal = j :: rest →
        e.choose now draw =
          { e with internal := rest, service := some { job := .internal j, takenAt := now, draw := draw } }) ∧
      (e.internal = [] →
        (∀ p j, e.waiting.get p = some j →
          (∀ q, stepsAfter e.lastServed q < stepsAfter e.lastServed p → e.waiting.get q = none) →
          e.choose now draw =
            { e with waiting := e.waiting.set p none, lastServed := p,
                     service := some { job := .port p j, takenAt := now, draw := draw } }) ∧
        ((∀ p, e.waiting.get p = none) → e.choose now draw = e)))

/-- An insertion completes with QUOTA, TABLE_FULL or OK, and OK creates its entry (R46, R47, R48, R60, R69). -/
def Obligations.InsertionCompletesWithItsChecks : Prop :=
  ∀ (t : Nat) (p : Port) (f : EntryFields) (taken draw : Nat) (s : State),
    s.engine.service = some { job := .port p (.insertion f), takenAt := taken, draw := draw } →
    taken < max s.now t →
    ((s.port p).quota ≤ s.slotsWith (fun e => decide (e.owner = p)) →
      exec (.insertionCompletes t) s = .next
        { s.advanceTo t with
          draws := s.draws + 1
          ports := s.ports.set p ((s.port p).completed .insertEntry .quota [])
          engine := Engine.choose { s.engine with service := none } (max s.now t) s.draws }) ∧
    (s.slotsWith (fun e => decide (e.owner = p)) < (s.port p).quota → (∀ i, s.slot i ≠ none) →
      exec (.insertionCompletes t) s = .next
        { s.advanceTo t with
          draws := s.draws + 1
          ports := s.ports.set p ((s.port p).completed .insertEntry .tableFull [])
          engine := Engine.choose { s.engine with service := none } (max s.now t) s.draws }) ∧
    (∀ id, s.slotsWith (fun e => decide (e.owner = p)) < (s.port p).quota → s.slot id = none →
      (∀ i < id, s.slot i ≠ none) →
      exec (.insertionCompletes t) s = .next
        { s.advanceTo t with
          draws := s.draws + 1
          slots := s.slots.set id (some
            { owner := p, fields := f, status := .pending, seq := s.nextSeq, effective := f.trigger,
              clamped := false })
          nextSeq := s.nextSeq + 1
          lastFired := s.lastFired.set id none
          ports := s.ports.set p ((s.port p).completed .insertEntry .ok
            ([BitVec.ofNat 8 id.val] ++ leBytes 4 s.nextSeq.toNat))
          engine := Engine.choose { s.engine with service := none } (max s.now t) s.draws })

/-- An entry deletion completes with NO_ENTRY, NOT_OWNER or OK; OK removes the entry and ends the pulse it set (R61). -/
def Obligations.EntryDeletionCompletesWithItsChecks : Prop :=
  ∀ (t : Nat) (p : Port) (id : EntryId) (taken draw : Nat) (s : State),
    s.engine.service = some { job := .port p (.entryDeletion id), takenAt := taken, draw := draw } →
    taken < max s.now t →
    (s.slot id = none → exec (.entryDeletionCompletes t) s = .next
      { s.advanceTo t with
        draws := s.draws + 1
        ports := s.ports.set p ((s.port p).completed .deleteEntry .noEntry [])
        engine := Engine.choose { s.engine with service := none } (max s.now t) s.draws }) ∧
    (∀ e, s.slot id = some e → e.owner ≠ p → exec (.entryDeletionCompletes t) s = .next
      { s.advanceTo t with
        draws := s.draws + 1
        ports := s.ports.set p ((s.port p).completed .deleteEntry .notOwner [])
        engine := Engine.choose { s.engine with service := none } (max s.now t) s.draws }) ∧
    (∀ e, s.slot id = some e → e.owner = p → exec (.entryDeletionCompletes t) s = .next
      { s.advanceTo t with
        draws := s.draws + 1
        slots := s.slots.set id none
        lines := s.lines.set e.fields.line
          (if (s.line e.fields.line).pulse.setBy id e.seq = true then
            { s.line e.fields.line with active := false, pulse := .none }
           else s.line e.fields.line)
        ports := s.ports.set p ((s.port p).completed .deleteEntry .ok [e.status.code])
        engine := Engine.choose { s.engine with service := none } (max s.now t) s.draws })

/-- A line clear and a release deletion remove the port's entries on the line, in every status; the first ends the pulse
that one of them set, the second hands the line over with LINE_GRANTED (R61, R62, R63, R95, R100). That a pulse whose
setter has left the table before is left as it stands is log entry 16. -/
def Obligations.LineClearAndReleaseRemoveTheLinesEntries : Prop :=
  ∀ (t : Nat) (p : Port) (l : Line) (taken draw : Nat) (s : State), taken < max s.now t →
    (s.engine.service = some { job := .port p (.lineClear l), takenAt := taken, draw := draw } →
      exec (.lineClearCompletes t) s = .next
        { s.advanceTo t with
          draws := s.draws + 1
          slots := s.slots.map fun o => o.filter fun e => !decide (e.owner = p ∧ e.fields.line = l)
          lines := s.lines.set l
            (if ∃ i e, s.slot i = some e ∧ (e.owner = p ∧ e.fields.line = l) ∧ (s.line l).pulse.setBy i e.seq = true then
              { s.line l with active := false, pulse := .none }
             else s.line l)
          ports := s.ports.set p ((s.port p).completed .clearLineEntries .ok
            [BitVec.ofNat 8 (s.slotsWith fun e => decide (e.owner = p ∧ e.fields.line = l))])
          engine := Engine.choose { s.engine with service := none } (max s.now t) s.draws }) ∧
    (s.engine.service = some { job := .port p (.releaseDeletion l), takenAt := taken, draw := draw } →
      exec (.releaseDeletionCompletes t) s = .next
        { s.advanceTo t with
          draws := s.draws + 1
          slots := s.slots.map fun o => o.filter fun e => !decide (e.owner = p ∧ e.fields.line = l)
          lines := s.lines.set l (s.line l).handedOver
          ports := s.ports.mapPort fun q ps =>
            let ps :=
              if ((s.line l).waiting.head?.map (·.port)) = some q ∧ ps.isClosed = false then
                ps.arrive (s.stamp (.lineGranted l))
              else ps
            if q = p then
              ps.completed .releaseLine .ok
                [BitVec.ofNat 8 (s.slotsWith fun e => decide (e.owner = p ∧ e.fields.line = l)),
                 match (s.line l).waiting with
                 | w :: _ => BitVec.ofNat 8 (portCode w.port)
                 | [] => 0xFF]
            else ps
          engine := Engine.choose { s.engine with service := none } (max s.now t) s.draws })

/-- A teardown sweep removes the closing port's entries, hands its lines over in ascending order with LINE_GRANTED, clears
its queue and latches, closes its session, posts PEER and gives the reply of R122 (R64, R109, R121, R152, R158). -/
def Obligations.SweepFinishesTheTeardown : Prop :=
  ∀ (t : Nat) (p : Port) (limit : Nat) (cause : TeardownCause) (taken draw : Nat) (s : State), LinesInv s →
    PortsInv s → s.engine.service = some { job := .internal (.sweep p), takenAt := taken, draw := draw } →
    taken < max s.now t → (s.port p).session = .closing limit cause →
    exec (.teardownSweepCompletes t) s = .next
      { s.advanceTo t with
        draws := s.draws + 1
        slots := s.slots.map fun o => o.filter fun e => !decide (e.owner = p)
        lines := s.lines.map fun l => if l.owner = some p then l.handedOver else l
        ports := s.ports.mapPort fun q ps =>
          if q = p then
            { ps with
              slot := .idle
              session := .closed
              queue := []
              queueSeq := 0
              reply :=
                .done
                  (match ps.slot with
                   | .idle => 0
                   | .working _ tag => tag
                   | .teardown tag => tag)
                  (match cause with
                   | .closed => .ok
                   | .silence => .noSession) [] ps.epoch
              attention :=
                { ps.attention with
                  latched := CauseSet.empty.withReply, watermarkHolds := false, nonemptyHolds := false } }
          else
            let granted :=
              ((List.finRange 16).filter fun l =>
                decide ((s.line l).owner = some p ∧ (s.line l).waiting.head?.map (·.port) = some q)).foldl
                (fun ps l => if ps.isClosed then ps else ps.arrive (s.stamp (.lineGranted l))) ps
            if ps.isOpen then granted.arrive (s.stamp (.peer p (some cause))) else granted
        engine := Engine.choose { s.engine with service := none } (max s.now t) s.draws }

/-- R65: a spent removal takes out the SPENT entry with its sequence, and does nothing if that entry is gone. -/
def Obligations.SpentRemovalTakesOnlyItsOwnEntry : Prop :=
  ∀ (t : Nat) (id : EntryId) (seq : Count32) (taken draw : Nat) (s : State),
    s.engine.service = some { job := .internal (.spentRemoval id seq), takenAt := taken, draw := draw } →
    taken < max s.now t →
    (∀ e, s.slot id = some e → e.seq = seq → e.status = .spent →
      exec (.spentRemovalCompletes t) s = .next
        { s.advanceTo t with
          draws := s.draws + 1
          slots := s.slots.set id none
          engine := Engine.choose { s.engine with service := none } (max s.now t) s.draws }) ∧
    ((∀ e, s.slot id = some e → ¬(e.seq = seq ∧ e.status = .spent)) →
      exec (.spentRemovalCompletes t) s = .next
        { s.advanceTo t with
          draws := s.draws + 1
          engine := Engine.choose { s.engine with service := none } (max s.now t) s.draws })

/-! ### Queues and attention -/

/-- R149: an arrival at a queue is appended, or stands in a LOST record. -/
def Obligations.ArrivalIsStoredOrCountedAsLost : Prop :=
  ∀ (q : List EventRecord) (seq : Byte) (r : Record),
    (q.length ≤ 30 → storeRecord q seq r = (q ++ [{ seq := seq, record := r }], seq + 1)) ∧
    (∀ last, q.getLast? = some last → q.length = 31 → last.record.payload.kind ≠ .lost →
      storeRecord q seq r =
        (q ++ [{ seq := seq,
                 record := { phase := r.phase, cycle := r.cycle, payload := .lost 1 r.payload.kind } }], seq + 1)) ∧
    (∀ last count first, q.getLast? = some last → q.length = 31 ∨ q.length = 32 →
      last.record.payload = .lost count first →
      storeRecord q seq r =
        (q.dropLast ++
          [{ last with record := { last.record with payload := .lost (min 255 (count + 1)) first } }], seq)) ∧
    (q.length ≤ 32 → (q.length = 32 → newestIsLost q = true) →
      (storeRecord q seq r).1.length ≤ 32 ∧
        ((storeRecord q seq r).1.length = 32 → newestIsLost (storeRecord q seq r).1 = true))

/-- What an arrival and a change of depth do to the causes of a port, and when its ATTN output is driven low (R153, R154,
R155). -/
def Obligations.CausesLatchAndDriveTheAttentionLine : Prop :=
  (∀ (a : Attention) (depth : Nat),
    a.atDepth depth =
      { a with
        watermarkHolds := decide (a.watermark ≤ depth)
        nonemptyHolds := decide (1 ≤ depth)
        latched :=
          { a.latched with
            watermark := a.latched.watermark ||
              (match a.watermarkEdge with
               | .rising => !a.watermarkHolds && decide (a.watermark ≤ depth)
               | .falling => a.watermarkHolds && !decide (a.watermark ≤ depth))
            nonempty := a.latched.nonempty ||
              (match a.nonemptyEdge with
               | .rising => !a.nonemptyHolds && decide (1 ≤ depth)
               | .falling => a.nonemptyHolds && !decide (1 ≤ depth)) } }) ∧
  (∀ (ps : PortState) (r : Record),
    ps.arrive r =
      { ps with
        queue := (storeRecord ps.queue ps.queueSeq r).1
        queueSeq := (storeRecord ps.queue ps.queueSeq r).2
        attention :=
          let seen :=
            if (storeRecord ps.queue ps.queueSeq r).1.length = ps.queue.length then ps.attention
            else ps.attention.atDepth (storeRecord ps.queue ps.queueSeq r).1.length
          { seen with
            latched :=
              { seen.latched with
                tracker := seen.latched.tracker || decide (r.payload.kind = .state)
                line := seen.latched.line || decide (r.payload.kind = .lineGranted) } } }) ∧
  ∀ a : Attention, a.pin = .low ↔
    (a.latched.watermark = true ∧ a.enables.watermark = true) ∨ (a.latched.nonempty = true ∧ a.enables.nonempty = true) ∨
    (a.latched.reply = true ∧ a.enables.reply = true) ∨ (a.latched.tracker = true ∧ a.enables.tracker = true) ∨
    (a.latched.line = true ∧ a.enables.line = true)

/-! ### Events that are not due, and the invariants -/

/-- An event command whose event is not due at its tick changes nothing but the time (log entry 7). The phase rise that
brings no higher phase is in PhaseRisesAsElapsedTime, the silence expiry in TeardownBeginsInFiveSteps, the hold that does
not begin in ConditionerFollowsItsInput and the select asserted already in SelectCapturesTheReplyFrame. -/
def Obligations.EventsThatAreNotDueDoNothing : Prop :=
  ∀ (t : Nat) (s : State),
    ((s.advanceTo t).delivered .mark = none → exec (.mark t) s = .next (s.advanceTo t)) ∧
    ((s.advanceTo t).delivered .index = none → exec (.indexEdge t) s = .next (s.advanceTo t)) ∧
    (∀ ch,
      ((s.advanceTo t).recognised ch = none ∨
        (∃ e n, (s.advanceTo t).recognised ch = some (e, n) ∧ s.tracker.config.Selects ch e) →
        exec (.unselectedTransition t ch) s = .next (s.advanceTo t)) ∧
      ((∃ since, ((s.advanceTo t).channel ch).filtered = .awaiting since) ∨
        ((s.advanceTo t).channel ch).sampled = some (max s.now t) ∨ ((s.advanceTo t).channel ch).hold = none ∨
        (∃ n, ((s.advanceTo t).channel ch).hold = some n ∧ n + s.tracker.config.filterOf ch < max s.now t) →
        exec (.conditionerHoldAbandoned t ch) s = .next (s.advanceTo t))) ∧
    ((s.tracker.state ≠ .acquiring ∨ s.tracker.reference = none ∨
        ∃ r, s.tracker.reference = some r ∧ max s.now t - r.time < 8388608) →
      exec (.noMarkLimit t) s = .next (s.advanceTo t)) ∧
    ((s.tracker.state ≠ .locked ∧ s.tracker.state ≠ .coasting ∨ s.tracker.reference = none ∨
        ∃ r, s.tracker.reference = some r ∧
          max s.now t - r.time < s.tracker.estimate * (16 + s.tracker.config.late) / 16) →
      exec (.lateTimeout t) s = .next (s.advanceTo t)) ∧
    (s.tracker.state ≠ .locked ∧ s.tracker.state ≠ .coasting ∨ s.tracker.phase = none →
      exec (.phaseRise t) s = .next (s.advanceTo t)) ∧
    (∀ l, (∀ id seq expires, (s.line l).pulse = .timeEnd id seq expires → max s.now t < expires) →
      exec (.pulseTimerExpiry t l) s = .next (s.advanceTo t)) ∧
    (s.hold.sampled = some (max s.now t) ∨ (s.advanceTo t).hold.awaiting = none ∧ (s.advanceTo t).hold.pin = .low →
      exec (.holdAssertion t) s = .next (s.advanceTo t)) ∧
    (s.hold.sampled = some (max s.now t) ∨ (s.advanceTo t).hold.awaiting = none ∧ (s.advanceTo t).hold.pin = .high →
      exec (.holdDeassertion t) s = .next (s.advanceTo t)) ∧
    ((∀ v p f, s.engine.service = some v → v.takenAt < max s.now t → v.job ≠ .port p (.insertion f)) →
      exec (.insertionCompletes t) s = .next (s.advanceTo t)) ∧
    ((∀ v p id, s.engine.service = some v → v.takenAt < max s.now t → v.job ≠ .port p (.entryDeletion id)) →
      exec (.entryDeletionCompletes t) s = .next (s.advanceTo t)) ∧
    ((∀ v p l, s.engine.service = some v → v.takenAt < max s.now t → v.job ≠ .port p (.lineClear l)) →
      exec (.lineClearCompletes t) s = .next (s.advanceTo t)) ∧
    ((∀ v p l, s.engine.service = some v → v.takenAt < max s.now t → v.job ≠ .port p (.releaseDeletion l)) →
      exec (.releaseDeletionCompletes t) s = .next (s.advanceTo t)) ∧
    ((∀ v p, s.engine.service = some v → v.takenAt < max s.now t → v.job ≠ .internal (.sweep p)) →
      exec (.teardownSweepCompletes t) s = .next (s.advanceTo t)) ∧
    ((∀ v id seq, s.engine.service = some v → v.takenAt < max s.now t → v.job ≠ .internal (.spentRemoval id seq)) →
      exec (.spentRemovalCompletes t) s = .next (s.advanceTo t))

/-- The part after reset meets the four invariants. -/
def Obligations.ResetMeetsTheInvariants : Prop :=
  TrackerInv State.reset ∧ LinesInv State.reset ∧ PortsInv State.reset ∧ OwnershipInv State.reset

/-- Every step keeps the tracker in order: a legal record, a ring of genuine intervals with E their mean, and a valid
phase with the walker at it exactly while it tracks. -/
def Obligations.EveryStepKeepsTheTrackerInvariant : Prop :=
  ∀ s u : State, TrackerInv s → step s = .next u → TrackerInv u

/-- Every step keeps the lines safe: a line is in RUN only while the tracker is LOCKED or COASTING, HOLD is deasserted and
its owner's session is OPEN, and a line that is not in RUN has no pulse pending. -/
def Obligations.EveryStepKeepsTheLinesInvariant : Prop :=
  ∀ s u : State, LinesInv s → step s = .next u → LinesInv u

/-- Every step keeps each port in order: PENDING with WORKING, the queue within 32 with LOST at its end when full, the
condition values those of the depth. -/
def Obligations.EveryStepKeepsThePortsInvariant : Prop :=
  ∀ s u : State, PortsInv s → step s = .next u → PortsInv u

/-- Every step keeps ownership in order: every entry's line is owned by the entry's owner, a CLOSED port owns nothing, a
CLOSING port has exactly one sweep coming, and the engine is never idle while a job waits. -/
def Obligations.EveryStepKeepsTheOwnershipInvariant : Prop :=
  ∀ s u : State, OwnershipInv s → step s = .next u → OwnershipInv u
end

