-- ==== Sys2Proof/Laws/State.lean ====
section
/-! SUPPORT. The small lemmas of State and its containers: one per field per named update, and what a container reads
after a write. -/

namespace Sys2Proof.Machine

/-! ### Containers -/

@[simp] theorem Bank.get_set_self {α : Type} {n : Nat} (b : Bank α n) (i : Fin n) (a : α) : (b.set i a).get i = a := by
  simp [Bank.get, Bank.set]

theorem Bank.get_set {α : Type} {n : Nat} (b : Bank α n) (i j : Fin n) (a : α) :
    (b.set i a).get j = if i = j then a else b.get j := by
  simp [Bank.get, Bank.set, List.getElem_set, Fin.ext_iff]

theorem Bank.get_set_ne {α : Type} {n : Nat} (b : Bank α n) {i j : Fin n} (a : α) (h : j ≠ i) :
    (b.set i a).get j = b.get j := by
  rw [Bank.get_set, if_neg (Ne.symm h)]

@[simp] theorem Bank.get_map {α : Type} {n : Nat} (f : α → α) (b : Bank α n) (i : Fin n) :
    (b.map f).get i = f (b.get i) := by
  simp [Bank.get, Bank.map]

@[simp] theorem Bank.get_fill {α : Type} {n : Nat} (a : α) (i : Fin n) : (Bank.fill n a).get i = a := by
  simp [Bank.get, Bank.fill]

theorem Bank.ext_get {α : Type} {n : Nat} (b c : Bank α n) (h : ∀ i, b.get i = c.get i) : b = c := by
  obtain ⟨bs, hb⟩ := b
  obtain ⟨cs, hc⟩ := c
  congr 1
  refine List.ext_getElem (hb.trans hc.symm) fun i h1 _ => ?_
  exact h ⟨i, hb ▸ h1⟩

theorem Bank.mem_cells {α : Type} {n : Nat} (b : Bank α n) (a : α) : a ∈ b.cells ↔ ∃ i, b.get i = a := by
  obtain ⟨bs, hb⟩ := b
  subst hb
  simp only [Bank.get, List.mem_iff_getElem]
  constructor
  · rintro ⟨i, h, rfl⟩
    exact ⟨⟨i, h⟩, rfl⟩
  · rintro ⟨i, rfl⟩
    exact ⟨i.val, i.isLt, rfl⟩

theorem Bank.mem_indexed {α : Type} {n : Nat} (b : Bank α n) (i : Fin n) (a : α) :
    (i, a) ∈ b.indexed ↔ b.get i = a := by
  obtain ⟨bs, hb⟩ := b
  subst hb
  simp only [Bank.indexed, Bank.get, List.mem_iff_getElem, List.getElem_zip, List.getElem_finRange, Prod.mk.injEq]
  constructor
  · rintro ⟨j, h, rfl, rfl⟩
    rfl
  · rintro rfl
    exact ⟨i.val, by simp, by ext; simp, rfl⟩

@[simp] theorem PerPort.get_set_self {α : Type} (x : PerPort α) (p : Port) (v : α) : (x.set p v).get p = v := by
  cases p <;> rfl

theorem PerPort.get_set {α : Type} (x : PerPort α) (p q : Port) (v : α) :
    (x.set p v).get q = if p = q then v else x.get q := by
  cases p <;> cases q <;> rfl

theorem PerPort.get_set_ne {α : Type} (x : PerPort α) {p q : Port} (v : α) (h : q ≠ p) :
    (x.set p v).get q = x.get q := by
  rw [PerPort.get_set, if_neg (Ne.symm h)]

@[simp] theorem PerPort.get_mapPort {α : Type} (f : Port → α → α) (x : PerPort α) (p : Port) :
    (x.mapPort f).get p = f p (x.get p) := by
  cases p <;> rfl

@[simp] theorem PerPort.set_set {α : Type} (x : PerPort α) (p : Port) (v w : α) :
    (x.set p v).set p w = x.set p w := by
  cases p <;> rfl

@[simp] theorem PerPort.set_get {α : Type} (x : PerPort α) (p : Port) : x.set p (x.get p) = x := by
  cases p <;> rfl

theorem PerPort.ext_get {α : Type} (x y : PerPort α) (h : ∀ p, x.get p = y.get p) : x = y := by
  obtain ⟨a, b, c, d⟩ := x
  obtain ⟨a', b', c', d'⟩ := y
  have hA := h .A
  have hB := h .B
  have hC := h .C
  have hD := h .D
  simp only [PerPort.get] at hA hB hC hD
  subst hA hB hC hD
  rfl

/-! ### Named updates -/

@[simp] theorem State.setNow_now (s : State) (x : Nat) : (s.setNow x).now = x := rfl
@[simp] theorem State.setNow_draws (s : State) (x : Nat) : (s.setNow x).draws = s.draws := rfl
@[simp] theorem State.setNow_pending (s : State) (x : Nat) : (s.setNow x).pending = s.pending := rfl
@[simp] theorem State.setNow_markChannel (s : State) (x : Nat) : (s.setNow x).markChannel = s.markChannel := rfl
@[simp] theorem State.setNow_indexChannel (s : State) (x : Nat) : (s.setNow x).indexChannel = s.indexChannel := rfl
@[simp] theorem State.setNow_hold (s : State) (x : Nat) : (s.setNow x).hold = s.hold := rfl
@[simp] theorem State.setNow_tracker (s : State) (x : Nat) : (s.setNow x).tracker = s.tracker := rfl
@[simp] theorem State.setNow_slots (s : State) (x : Nat) : (s.setNow x).slots = s.slots := rfl
@[simp] theorem State.setNow_nextSeq (s : State) (x : Nat) : (s.setNow x).nextSeq = s.nextSeq := rfl
@[simp] theorem State.setNow_engine (s : State) (x : Nat) : (s.setNow x).engine = s.engine := rfl
@[simp] theorem State.setNow_walkPos (s : State) (x : Nat) : (s.setNow x).walkPos = s.walkPos := rfl
@[simp] theorem State.setNow_lastFired (s : State) (x : Nat) : (s.setNow x).lastFired = s.lastFired := rfl
@[simp] theorem State.setNow_lines (s : State) (x : Nat) : (s.setNow x).lines = s.lines := rfl
@[simp] theorem State.setNow_ports (s : State) (x : Nat) : (s.setNow x).ports = s.ports := rfl
@[simp] theorem State.setNow_grant (s : State) (x : Nat) : (s.setNow x).grant = s.grant := rfl
@[simp] theorem State.setNow_twice (s : State) (x y : Nat) : (s.setNow x).setNow y = s.setNow y := rfl
@[simp] theorem State.setDraws_now (s : State) (x : Nat) : (s.setDraws x).now = s.now := rfl
@[simp] theorem State.setDraws_draws (s : State) (x : Nat) : (s.setDraws x).draws = x := rfl
@[simp] theorem State.setDraws_pending (s : State) (x : Nat) : (s.setDraws x).pending = s.pending := rfl
@[simp] theorem State.setDraws_markChannel (s : State) (x : Nat) : (s.setDraws x).markChannel = s.markChannel := rfl
@[simp] theorem State.setDraws_indexChannel (s : State) (x : Nat) : (s.setDraws x).indexChannel = s.indexChannel := rfl
@[simp] theorem State.setDraws_hold (s : State) (x : Nat) : (s.setDraws x).hold = s.hold := rfl
@[simp] theorem State.setDraws_tracker (s : State) (x : Nat) : (s.setDraws x).tracker = s.tracker := rfl
@[simp] theorem State.setDraws_slots (s : State) (x : Nat) : (s.setDraws x).slots = s.slots := rfl
@[simp] theorem State.setDraws_nextSeq (s : State) (x : Nat) : (s.setDraws x).nextSeq = s.nextSeq := rfl
@[simp] theorem State.setDraws_engine (s : State) (x : Nat) : (s.setDraws x).engine = s.engine := rfl
@[simp] theorem State.setDraws_walkPos (s : State) (x : Nat) : (s.setDraws x).walkPos = s.walkPos := rfl
@[simp] theorem State.setDraws_lastFired (s : State) (x : Nat) : (s.setDraws x).lastFired = s.lastFired := rfl
@[simp] theorem State.setDraws_lines (s : State) (x : Nat) : (s.setDraws x).lines = s.lines := rfl
@[simp] theorem State.setDraws_ports (s : State) (x : Nat) : (s.setDraws x).ports = s.ports := rfl
@[simp] theorem State.setDraws_grant (s : State) (x : Nat) : (s.setDraws x).grant = s.grant := rfl
@[simp] theorem State.setDraws_twice (s : State) (x y : Nat) : (s.setDraws x).setDraws y = s.setDraws y := rfl
@[simp] theorem State.setPending_now (s : State) (x : List Instr) : (s.setPending x).now = s.now := rfl
@[simp] theorem State.setPending_draws (s : State) (x : List Instr) : (s.setPending x).draws = s.draws := rfl
@[simp] theorem State.setPending_pending (s : State) (x : List Instr) : (s.setPending x).pending = x := rfl
@[simp] theorem State.setPending_markChannel (s : State) (x : List Instr) : (s.setPending x).markChannel = s.markChannel := rfl
@[simp] theorem State.setPending_indexChannel (s : State) (x : List Instr) : (s.setPending x).indexChannel = s.indexChannel := rfl
@[simp] theorem State.setPending_hold (s : State) (x : List Instr) : (s.setPending x).hold = s.hold := rfl
@[simp] theorem State.setPending_tracker (s : State) (x : List Instr) : (s.setPending x).tracker = s.tracker := rfl
@[simp] theorem State.setPending_slots (s : State) (x : List Instr) : (s.setPending x).slots = s.slots := rfl
@[simp] theorem State.setPending_nextSeq (s : State) (x : List Instr) : (s.setPending x).nextSeq = s.nextSeq := rfl
@[simp] theorem State.setPending_engine (s : State) (x : List Instr) : (s.setPending x).engine = s.engine := rfl
@[simp] theorem State.setPending_walkPos (s : State) (x : List Instr) : (s.setPending x).walkPos = s.walkPos := rfl
@[simp] theorem State.setPending_lastFired (s : State) (x : List Instr) : (s.setPending x).lastFired = s.lastFired := rfl
@[simp] theorem State.setPending_lines (s : State) (x : List Instr) : (s.setPending x).lines = s.lines := rfl
@[simp] theorem State.setPending_ports (s : State) (x : List Instr) : (s.setPending x).ports = s.ports := rfl
@[simp] theorem State.setPending_grant (s : State) (x : List Instr) : (s.setPending x).grant = s.grant := rfl
@[simp] theorem State.setPending_twice (s : State) (x y : List Instr) : (s.setPending x).setPending y = s.setPending y := rfl
@[simp] theorem State.setMarkChannel_now (s : State) (x : ChannelState) : (s.setMarkChannel x).now = s.now := rfl
@[simp] theorem State.setMarkChannel_draws (s : State) (x : ChannelState) : (s.setMarkChannel x).draws = s.draws := rfl
@[simp] theorem State.setMarkChannel_pending (s : State) (x : ChannelState) : (s.setMarkChannel x).pending = s.pending := rfl
@[simp] theorem State.setMarkChannel_markChannel (s : State) (x : ChannelState) : (s.setMarkChannel x).markChannel = x := rfl
@[simp] theorem State.setMarkChannel_indexChannel (s : State) (x : ChannelState) : (s.setMarkChannel x).indexChannel = s.indexChannel := rfl
@[simp] theorem State.setMarkChannel_hold (s : State) (x : ChannelState) : (s.setMarkChannel x).hold = s.hold := rfl
@[simp] theorem State.setMarkChannel_tracker (s : State) (x : ChannelState) : (s.setMarkChannel x).tracker = s.tracker := rfl
@[simp] theorem State.setMarkChannel_slots (s : State) (x : ChannelState) : (s.setMarkChannel x).slots = s.slots := rfl
@[simp] theorem State.setMarkChannel_nextSeq (s : State) (x : ChannelState) : (s.setMarkChannel x).nextSeq = s.nextSeq := rfl
@[simp] theorem State.setMarkChannel_engine (s : State) (x : ChannelState) : (s.setMarkChannel x).engine = s.engine := rfl
@[simp] theorem State.setMarkChannel_walkPos (s : State) (x : ChannelState) : (s.setMarkChannel x).walkPos = s.walkPos := rfl
@[simp] theorem State.setMarkChannel_lastFired (s : State) (x : ChannelState) : (s.setMarkChannel x).lastFired = s.lastFired := rfl
@[simp] theorem State.setMarkChannel_lines (s : State) (x : ChannelState) : (s.setMarkChannel x).lines = s.lines := rfl
@[simp] theorem State.setMarkChannel_ports (s : State) (x : ChannelState) : (s.setMarkChannel x).ports = s.ports := rfl
@[simp] theorem State.setMarkChannel_grant (s : State) (x : ChannelState) : (s.setMarkChannel x).grant = s.grant := rfl
@[simp] theorem State.setMarkChannel_twice (s : State) (x y : ChannelState) : (s.setMarkChannel x).setMarkChannel y = s.setMarkChannel y := rfl
@[simp] theorem State.setIndexChannel_now (s : State) (x : ChannelState) : (s.setIndexChannel x).now = s.now := rfl
@[simp] theorem State.setIndexChannel_draws (s : State) (x : ChannelState) : (s.setIndexChannel x).draws = s.draws := rfl
@[simp] theorem State.setIndexChannel_pending (s : State) (x : ChannelState) : (s.setIndexChannel x).pending = s.pending := rfl
@[simp] theorem State.setIndexChannel_markChannel (s : State) (x : ChannelState) : (s.setIndexChannel x).markChannel = s.markChannel := rfl
@[simp] theorem State.setIndexChannel_indexChannel (s : State) (x : ChannelState) : (s.setIndexChannel x).indexChannel = x := rfl
@[simp] theorem State.setIndexChannel_hold (s : State) (x : ChannelState) : (s.setIndexChannel x).hold = s.hold := rfl
@[simp] theorem State.setIndexChannel_tracker (s : State) (x : ChannelState) : (s.setIndexChannel x).tracker = s.tracker := rfl
@[simp] theorem State.setIndexChannel_slots (s : State) (x : ChannelState) : (s.setIndexChannel x).slots = s.slots := rfl
@[simp] theorem State.setIndexChannel_nextSeq (s : State) (x : ChannelState) : (s.setIndexChannel x).nextSeq = s.nextSeq := rfl
@[simp] theorem State.setIndexChannel_engine (s : State) (x : ChannelState) : (s.setIndexChannel x).engine = s.engine := rfl
@[simp] theorem State.setIndexChannel_walkPos (s : State) (x : ChannelState) : (s.setIndexChannel x).walkPos = s.walkPos := rfl
@[simp] theorem State.setIndexChannel_lastFired (s : State) (x : ChannelState) : (s.setIndexChannel x).lastFired = s.lastFired := rfl
@[simp] theorem State.setIndexChannel_lines (s : State) (x : ChannelState) : (s.setIndexChannel x).lines = s.lines := rfl
@[simp] theorem State.setIndexChannel_ports (s : State) (x : ChannelState) : (s.setIndexChannel x).ports = s.ports := rfl
@[simp] theorem State.setIndexChannel_grant (s : State) (x : ChannelState) : (s.setIndexChannel x).grant = s.grant := rfl
@[simp] theorem State.setIndexChannel_twice (s : State) (x y : ChannelState) : (s.setIndexChannel x).setIndexChannel y = s.setIndexChannel y := rfl
@[simp] theorem State.setHold_now (s : State) (x : HoldInput) : (s.setHold x).now = s.now := rfl
@[simp] theorem State.setHold_draws (s : State) (x : HoldInput) : (s.setHold x).draws = s.draws := rfl
@[simp] theorem State.setHold_pending (s : State) (x : HoldInput) : (s.setHold x).pending = s.pending := rfl
@[simp] theorem State.setHold_markChannel (s : State) (x : HoldInput) : (s.setHold x).markChannel = s.markChannel := rfl
@[simp] theorem State.setHold_indexChannel (s : State) (x : HoldInput) : (s.setHold x).indexChannel = s.indexChannel := rfl
@[simp] theorem State.setHold_hold (s : State) (x : HoldInput) : (s.setHold x).hold = x := rfl
@[simp] theorem State.setHold_tracker (s : State) (x : HoldInput) : (s.setHold x).tracker = s.tracker := rfl
@[simp] theorem State.setHold_slots (s : State) (x : HoldInput) : (s.setHold x).slots = s.slots := rfl
@[simp] theorem State.setHold_nextSeq (s : State) (x : HoldInput) : (s.setHold x).nextSeq = s.nextSeq := rfl
@[simp] theorem State.setHold_engine (s : State) (x : HoldInput) : (s.setHold x).engine = s.engine := rfl
@[simp] theorem State.setHold_walkPos (s : State) (x : HoldInput) : (s.setHold x).walkPos = s.walkPos := rfl
@[simp] theorem State.setHold_lastFired (s : State) (x : HoldInput) : (s.setHold x).lastFired = s.lastFired := rfl
@[simp] theorem State.setHold_lines (s : State) (x : HoldInput) : (s.setHold x).lines = s.lines := rfl
@[simp] theorem State.setHold_ports (s : State) (x : HoldInput) : (s.setHold x).ports = s.ports := rfl
@[simp] theorem State.setHold_grant (s : State) (x : HoldInput) : (s.setHold x).grant = s.grant := rfl
@[simp] theorem State.setHold_twice (s : State) (x y : HoldInput) : (s.setHold x).setHold y = s.setHold y := rfl
@[simp] theorem State.setTracker_now (s : State) (x : Tracker) : (s.setTracker x).now = s.now := rfl
@[simp] theorem State.setTracker_draws (s : State) (x : Tracker) : (s.setTracker x).draws = s.draws := rfl
@[simp] theorem State.setTracker_pending (s : State) (x : Tracker) : (s.setTracker x).pending = s.pending := rfl
@[simp] theorem State.setTracker_markChannel (s : State) (x : Tracker) : (s.setTracker x).markChannel = s.markChannel := rfl
@[simp] theorem State.setTracker_indexChannel (s : State) (x : Tracker) : (s.setTracker x).indexChannel = s.indexChannel := rfl
@[simp] theorem State.setTracker_hold (s : State) (x : Tracker) : (s.setTracker x).hold = s.hold := rfl
@[simp] theorem State.setTracker_tracker (s : State) (x : Tracker) : (s.setTracker x).tracker = x := rfl
@[simp] theorem State.setTracker_slots (s : State) (x : Tracker) : (s.setTracker x).slots = s.slots := rfl
@[simp] theorem State.setTracker_nextSeq (s : State) (x : Tracker) : (s.setTracker x).nextSeq = s.nextSeq := rfl
@[simp] theorem State.setTracker_engine (s : State) (x : Tracker) : (s.setTracker x).engine = s.engine := rfl
@[simp] theorem State.setTracker_walkPos (s : State) (x : Tracker) : (s.setTracker x).walkPos = s.walkPos := rfl
@[simp] theorem State.setTracker_lastFired (s : State) (x : Tracker) : (s.setTracker x).lastFired = s.lastFired := rfl
@[simp] theorem State.setTracker_lines (s : State) (x : Tracker) : (s.setTracker x).lines = s.lines := rfl
@[simp] theorem State.setTracker_ports (s : State) (x : Tracker) : (s.setTracker x).ports = s.ports := rfl
@[simp] theorem State.setTracker_grant (s : State) (x : Tracker) : (s.setTracker x).grant = s.grant := rfl
@[simp] theorem State.setTracker_twice (s : State) (x y : Tracker) : (s.setTracker x).setTracker y = s.setTracker y := rfl
@[simp] theorem State.setSlots_now (s : State) (x : Bank (Option Entry) 128) : (s.setSlots x).now = s.now := rfl
@[simp] theorem State.setSlots_draws (s : State) (x : Bank (Option Entry) 128) : (s.setSlots x).draws = s.draws := rfl
@[simp] theorem State.setSlots_pending (s : State) (x : Bank (Option Entry) 128) : (s.setSlots x).pending = s.pending := rfl
@[simp] theorem State.setSlots_markChannel (s : State) (x : Bank (Option Entry) 128) : (s.setSlots x).markChannel = s.markChannel := rfl
@[simp] theorem State.setSlots_indexChannel (s : State) (x : Bank (Option Entry) 128) : (s.setSlots x).indexChannel = s.indexChannel := rfl
@[simp] theorem State.setSlots_hold (s : State) (x : Bank (Option Entry) 128) : (s.setSlots x).hold = s.hold := rfl
@[simp] theorem State.setSlots_tracker (s : State) (x : Bank (Option Entry) 128) : (s.setSlots x).tracker = s.tracker := rfl
@[simp] theorem State.setSlots_slots (s : State) (x : Bank (Option Entry) 128) : (s.setSlots x).slots = x := rfl
@[simp] theorem State.setSlots_nextSeq (s : State) (x : Bank (Option Entry) 128) : (s.setSlots x).nextSeq = s.nextSeq := rfl
@[simp] theorem State.setSlots_engine (s : State) (x : Bank (Option Entry) 128) : (s.setSlots x).engine = s.engine := rfl
@[simp] theorem State.setSlots_walkPos (s : State) (x : Bank (Option Entry) 128) : (s.setSlots x).walkPos = s.walkPos := rfl
@[simp] theorem State.setSlots_lastFired (s : State) (x : Bank (Option Entry) 128) : (s.setSlots x).lastFired = s.lastFired := rfl
@[simp] theorem State.setSlots_lines (s : State) (x : Bank (Option Entry) 128) : (s.setSlots x).lines = s.lines := rfl
@[simp] theorem State.setSlots_ports (s : State) (x : Bank (Option Entry) 128) : (s.setSlots x).ports = s.ports := rfl
@[simp] theorem State.setSlots_grant (s : State) (x : Bank (Option Entry) 128) : (s.setSlots x).grant = s.grant := rfl
@[simp] theorem State.setSlots_twice (s : State) (x y : Bank (Option Entry) 128) : (s.setSlots x).setSlots y = s.setSlots y := rfl
@[simp] theorem State.setNextSeq_now (s : State) (x : Count32) : (s.setNextSeq x).now = s.now := rfl
@[simp] theorem State.setNextSeq_draws (s : State) (x : Count32) : (s.setNextSeq x).draws = s.draws := rfl
@[simp] theorem State.setNextSeq_pending (s : State) (x : Count32) : (s.setNextSeq x).pending = s.pending := rfl
@[simp] theorem State.setNextSeq_markChannel (s : State) (x : Count32) : (s.setNextSeq x).markChannel = s.markChannel := rfl
@[simp] theorem State.setNextSeq_indexChannel (s : State) (x : Count32) : (s.setNextSeq x).indexChannel = s.indexChannel := rfl
@[simp] theorem State.setNextSeq_hold (s : State) (x : Count32) : (s.setNextSeq x).hold = s.hold := rfl
@[simp] theorem State.setNextSeq_tracker (s : State) (x : Count32) : (s.setNextSeq x).tracker = s.tracker := rfl
@[simp] theorem State.setNextSeq_slots (s : State) (x : Count32) : (s.setNextSeq x).slots = s.slots := rfl
@[simp] theorem State.setNextSeq_nextSeq (s : State) (x : Count32) : (s.setNextSeq x).nextSeq = x := rfl
@[simp] theorem State.setNextSeq_engine (s : State) (x : Count32) : (s.setNextSeq x).engine = s.engine := rfl
@[simp] theorem State.setNextSeq_walkPos (s : State) (x : Count32) : (s.setNextSeq x).walkPos = s.walkPos := rfl
@[simp] theorem State.setNextSeq_lastFired (s : State) (x : Count32) : (s.setNextSeq x).lastFired = s.lastFired := rfl
@[simp] theorem State.setNextSeq_lines (s : State) (x : Count32) : (s.setNextSeq x).lines = s.lines := rfl
@[simp] theorem State.setNextSeq_ports (s : State) (x : Count32) : (s.setNextSeq x).ports = s.ports := rfl
@[simp] theorem State.setNextSeq_grant (s : State) (x : Count32) : (s.setNextSeq x).grant = s.grant := rfl
@[simp] theorem State.setNextSeq_twice (s : State) (x y : Count32) : (s.setNextSeq x).setNextSeq y = s.setNextSeq y := rfl
@[simp] theorem State.setEngine_now (s : State) (x : Engine) : (s.setEngine x).now = s.now := rfl
@[simp] theorem State.setEngine_draws (s : State) (x : Engine) : (s.setEngine x).draws = s.draws := rfl
@[simp] theorem State.setEngine_pending (s : State) (x : Engine) : (s.setEngine x).pending = s.pending := rfl
@[simp] theorem State.setEngine_markChannel (s : State) (x : Engine) : (s.setEngine x).markChannel = s.markChannel := rfl
@[simp] theorem State.setEngine_indexChannel (s : State) (x : Engine) : (s.setEngine x).indexChannel = s.indexChannel := rfl
@[simp] theorem State.setEngine_hold (s : State) (x : Engine) : (s.setEngine x).hold = s.hold := rfl
@[simp] theorem State.setEngine_tracker (s : State) (x : Engine) : (s.setEngine x).tracker = s.tracker := rfl
@[simp] theorem State.setEngine_slots (s : State) (x : Engine) : (s.setEngine x).slots = s.slots := rfl
@[simp] theorem State.setEngine_nextSeq (s : State) (x : Engine) : (s.setEngine x).nextSeq = s.nextSeq := rfl
@[simp] theorem State.setEngine_engine (s : State) (x : Engine) : (s.setEngine x).engine = x := rfl
@[simp] theorem State.setEngine_walkPos (s : State) (x : Engine) : (s.setEngine x).walkPos = s.walkPos := rfl
@[simp] theorem State.setEngine_lastFired (s : State) (x : Engine) : (s.setEngine x).lastFired = s.lastFired := rfl
@[simp] theorem State.setEngine_lines (s : State) (x : Engine) : (s.setEngine x).lines = s.lines := rfl
@[simp] theorem State.setEngine_ports (s : State) (x : Engine) : (s.setEngine x).ports = s.ports := rfl
@[simp] theorem State.setEngine_grant (s : State) (x : Engine) : (s.setEngine x).grant = s.grant := rfl
@[simp] theorem State.setEngine_twice (s : State) (x y : Engine) : (s.setEngine x).setEngine y = s.setEngine y := rfl
@[simp] theorem State.setWalkPos_now (s : State) (x : WalkPos) : (s.setWalkPos x).now = s.now := rfl
@[simp] theorem State.setWalkPos_draws (s : State) (x : WalkPos) : (s.setWalkPos x).draws = s.draws := rfl
@[simp] theorem State.setWalkPos_pending (s : State) (x : WalkPos) : (s.setWalkPos x).pending = s.pending := rfl
@[simp] theorem State.setWalkPos_markChannel (s : State) (x : WalkPos) : (s.setWalkPos x).markChannel = s.markChannel := rfl
@[simp] theorem State.setWalkPos_indexChannel (s : State) (x : WalkPos) : (s.setWalkPos x).indexChannel = s.indexChannel := rfl
@[simp] theorem State.setWalkPos_hold (s : State) (x : WalkPos) : (s.setWalkPos x).hold = s.hold := rfl
@[simp] theorem State.setWalkPos_tracker (s : State) (x : WalkPos) : (s.setWalkPos x).tracker = s.tracker := rfl
@[simp] theorem State.setWalkPos_slots (s : State) (x : WalkPos) : (s.setWalkPos x).slots = s.slots := rfl
@[simp] theorem State.setWalkPos_nextSeq (s : State) (x : WalkPos) : (s.setWalkPos x).nextSeq = s.nextSeq := rfl
@[simp] theorem State.setWalkPos_engine (s : State) (x : WalkPos) : (s.setWalkPos x).engine = s.engine := rfl
@[simp] theorem State.setWalkPos_walkPos (s : State) (x : WalkPos) : (s.setWalkPos x).walkPos = x := rfl
@[simp] theorem State.setWalkPos_lastFired (s : State) (x : WalkPos) : (s.setWalkPos x).lastFired = s.lastFired := rfl
@[simp] theorem State.setWalkPos_lines (s : State) (x : WalkPos) : (s.setWalkPos x).lines = s.lines := rfl
@[simp] theorem State.setWalkPos_ports (s : State) (x : WalkPos) : (s.setWalkPos x).ports = s.ports := rfl
@[simp] theorem State.setWalkPos_grant (s : State) (x : WalkPos) : (s.setWalkPos x).grant = s.grant := rfl
@[simp] theorem State.setWalkPos_twice (s : State) (x y : WalkPos) : (s.setWalkPos x).setWalkPos y = s.setWalkPos y := rfl
@[simp] theorem State.setLastFired_now (s : State) (x : Bank (Option Count32) 128) : (s.setLastFired x).now = s.now := rfl
@[simp] theorem State.setLastFired_draws (s : State) (x : Bank (Option Count32) 128) : (s.setLastFired x).draws = s.draws := rfl
@[simp] theorem State.setLastFired_pending (s : State) (x : Bank (Option Count32) 128) : (s.setLastFired x).pending = s.pending := rfl
@[simp] theorem State.setLastFired_markChannel (s : State) (x : Bank (Option Count32) 128) : (s.setLastFired x).markChannel = s.markChannel := rfl
@[simp] theorem State.setLastFired_indexChannel (s : State) (x : Bank (Option Count32) 128) : (s.setLastFired x).indexChannel = s.indexChannel := rfl
@[simp] theorem State.setLastFired_hold (s : State) (x : Bank (Option Count32) 128) : (s.setLastFired x).hold = s.hold := rfl
@[simp] theorem State.setLastFired_tracker (s : State) (x : Bank (Option Count32) 128) : (s.setLastFired x).tracker = s.tracker := rfl
@[simp] theorem State.setLastFired_slots (s : State) (x : Bank (Option Count32) 128) : (s.setLastFired x).slots = s.slots := rfl
@[simp] theorem State.setLastFired_nextSeq (s : State) (x : Bank (Option Count32) 128) : (s.setLastFired x).nextSeq = s.nextSeq := rfl
@[simp] theorem State.setLastFired_engine (s : State) (x : Bank (Option Count32) 128) : (s.setLastFired x).engine = s.engine := rfl
@[simp] theorem State.setLastFired_walkPos (s : State) (x : Bank (Option Count32) 128) : (s.setLastFired x).walkPos = s.walkPos := rfl
@[simp] theorem State.setLastFired_lastFired (s : State) (x : Bank (Option Count32) 128) : (s.setLastFired x).lastFired = x := rfl
@[simp] theorem State.setLastFired_lines (s : State) (x : Bank (Option Count32) 128) : (s.setLastFired x).lines = s.lines := rfl
@[simp] theorem State.setLastFired_ports (s : State) (x : Bank (Option Count32) 128) : (s.setLastFired x).ports = s.ports := rfl
@[simp] theorem State.setLastFired_grant (s : State) (x : Bank (Option Count32) 128) : (s.setLastFired x).grant = s.grant := rfl
@[simp] theorem State.setLastFired_twice (s : State) (x y : Bank (Option Count32) 128) : (s.setLastFired x).setLastFired y = s.setLastFired y := rfl
@[simp] theorem State.setLines_now (s : State) (x : Bank LineState 16) : (s.setLines x).now = s.now := rfl
@[simp] theorem State.setLines_draws (s : State) (x : Bank LineState 16) : (s.setLines x).draws = s.draws := rfl
@[simp] theorem State.setLines_pending (s : State) (x : Bank LineState 16) : (s.setLines x).pending = s.pending := rfl
@[simp] theorem State.setLines_markChannel (s : State) (x : Bank LineState 16) : (s.setLines x).markChannel = s.markChannel := rfl
@[simp] theorem State.setLines_indexChannel (s : State) (x : Bank LineState 16) : (s.setLines x).indexChannel = s.indexChannel := rfl
@[simp] theorem State.setLines_hold (s : State) (x : Bank LineState 16) : (s.setLines x).hold = s.hold := rfl
@[simp] theorem State.setLines_tracker (s : State) (x : Bank LineState 16) : (s.setLines x).tracker = s.tracker := rfl
@[simp] theorem State.setLines_slots (s : State) (x : Bank LineState 16) : (s.setLines x).slots = s.slots := rfl
@[simp] theorem State.setLines_nextSeq (s : State) (x : Bank LineState 16) : (s.setLines x).nextSeq = s.nextSeq := rfl
@[simp] theorem State.setLines_engine (s : State) (x : Bank LineState 16) : (s.setLines x).engine = s.engine := rfl
@[simp] theorem State.setLines_walkPos (s : State) (x : Bank LineState 16) : (s.setLines x).walkPos = s.walkPos := rfl
@[simp] theorem State.setLines_lastFired (s : State) (x : Bank LineState 16) : (s.setLines x).lastFired = s.lastFired := rfl
@[simp] theorem State.setLines_lines (s : State) (x : Bank LineState 16) : (s.setLines x).lines = x := rfl
@[simp] theorem State.setLines_ports (s : State) (x : Bank LineState 16) : (s.setLines x).ports = s.ports := rfl
@[simp] theorem State.setLines_grant (s : State) (x : Bank LineState 16) : (s.setLines x).grant = s.grant := rfl
@[simp] theorem State.setLines_twice (s : State) (x y : Bank LineState 16) : (s.setLines x).setLines y = s.setLines y := rfl
@[simp] theorem State.setPorts_now (s : State) (x : PerPort PortState) : (s.setPorts x).now = s.now := rfl
@[simp] theorem State.setPorts_draws (s : State) (x : PerPort PortState) : (s.setPorts x).draws = s.draws := rfl
@[simp] theorem State.setPorts_pending (s : State) (x : PerPort PortState) : (s.setPorts x).pending = s.pending := rfl
@[simp] theorem State.setPorts_markChannel (s : State) (x : PerPort PortState) : (s.setPorts x).markChannel = s.markChannel := rfl
@[simp] theorem State.setPorts_indexChannel (s : State) (x : PerPort PortState) : (s.setPorts x).indexChannel = s.indexChannel := rfl
@[simp] theorem State.setPorts_hold (s : State) (x : PerPort PortState) : (s.setPorts x).hold = s.hold := rfl
@[simp] theorem State.setPorts_tracker (s : State) (x : PerPort PortState) : (s.setPorts x).tracker = s.tracker := rfl
@[simp] theorem State.setPorts_slots (s : State) (x : PerPort PortState) : (s.setPorts x).slots = s.slots := rfl
@[simp] theorem State.setPorts_nextSeq (s : State) (x : PerPort PortState) : (s.setPorts x).nextSeq = s.nextSeq := rfl
@[simp] theorem State.setPorts_engine (s : State) (x : PerPort PortState) : (s.setPorts x).engine = s.engine := rfl
@[simp] theorem State.setPorts_walkPos (s : State) (x : PerPort PortState) : (s.setPorts x).walkPos = s.walkPos := rfl
@[simp] theorem State.setPorts_lastFired (s : State) (x : PerPort PortState) : (s.setPorts x).lastFired = s.lastFired := rfl
@[simp] theorem State.setPorts_lines (s : State) (x : PerPort PortState) : (s.setPorts x).lines = s.lines := rfl
@[simp] theorem State.setPorts_ports (s : State) (x : PerPort PortState) : (s.setPorts x).ports = x := rfl
@[simp] theorem State.setPorts_grant (s : State) (x : PerPort PortState) : (s.setPorts x).grant = s.grant := rfl
@[simp] theorem State.setPorts_twice (s : State) (x y : PerPort PortState) : (s.setPorts x).setPorts y = s.setPorts y := rfl
@[simp] theorem State.setGrant_now (s : State) (x : Option Port) : (s.setGrant x).now = s.now := rfl
@[simp] theorem State.setGrant_draws (s : State) (x : Option Port) : (s.setGrant x).draws = s.draws := rfl
@[simp] theorem State.setGrant_pending (s : State) (x : Option Port) : (s.setGrant x).pending = s.pending := rfl
@[simp] theorem State.setGrant_markChannel (s : State) (x : Option Port) : (s.setGrant x).markChannel = s.markChannel := rfl
@[simp] theorem State.setGrant_indexChannel (s : State) (x : Option Port) : (s.setGrant x).indexChannel = s.indexChannel := rfl
@[simp] theorem State.setGrant_hold (s : State) (x : Option Port) : (s.setGrant x).hold = s.hold := rfl
@[simp] theorem State.setGrant_tracker (s : State) (x : Option Port) : (s.setGrant x).tracker = s.tracker := rfl
@[simp] theorem State.setGrant_slots (s : State) (x : Option Port) : (s.setGrant x).slots = s.slots := rfl
@[simp] theorem State.setGrant_nextSeq (s : State) (x : Option Port) : (s.setGrant x).nextSeq = s.nextSeq := rfl
@[simp] theorem State.setGrant_engine (s : State) (x : Option Port) : (s.setGrant x).engine = s.engine := rfl
@[simp] theorem State.setGrant_walkPos (s : State) (x : Option Port) : (s.setGrant x).walkPos = s.walkPos := rfl
@[simp] theorem State.setGrant_lastFired (s : State) (x : Option Port) : (s.setGrant x).lastFired = s.lastFired := rfl
@[simp] theorem State.setGrant_lines (s : State) (x : Option Port) : (s.setGrant x).lines = s.lines := rfl
@[simp] theorem State.setGrant_ports (s : State) (x : Option Port) : (s.setGrant x).ports = s.ports := rfl
@[simp] theorem State.setGrant_grant (s : State) (x : Option Port) : (s.setGrant x).grant = x := rfl
@[simp] theorem State.setGrant_twice (s : State) (x y : Option Port) : (s.setGrant x).setGrant y = s.setGrant y := rfl

/-! ### One port, one line, one slot -/

@[simp] theorem State.setNow_port (s : State) (x : Nat) (p : Port) : (s.setNow x).port p = s.port p := rfl
@[simp] theorem State.setNow_line (s : State) (x : Nat) (l : Line) : (s.setNow x).line l = s.line l := rfl
@[simp] theorem State.setNow_slot (s : State) (x : Nat) (i : EntryId) : (s.setNow x).slot i = s.slot i := rfl
@[simp] theorem State.setDraws_port (s : State) (x : Nat) (p : Port) : (s.setDraws x).port p = s.port p := rfl
@[simp] theorem State.setDraws_line (s : State) (x : Nat) (l : Line) : (s.setDraws x).line l = s.line l := rfl
@[simp] theorem State.setDraws_slot (s : State) (x : Nat) (i : EntryId) : (s.setDraws x).slot i = s.slot i := rfl
@[simp] theorem State.setPending_port (s : State) (x : List Instr) (p : Port) : (s.setPending x).port p = s.port p := rfl
@[simp] theorem State.setPending_line (s : State) (x : List Instr) (l : Line) : (s.setPending x).line l = s.line l := rfl
@[simp] theorem State.setPending_slot (s : State) (x : List Instr) (i : EntryId) : (s.setPending x).slot i = s.slot i := rfl
@[simp] theorem State.setMarkChannel_port (s : State) (x : ChannelState) (p : Port) : (s.setMarkChannel x).port p = s.port p := rfl
@[simp] theorem State.setMarkChannel_line (s : State) (x : ChannelState) (l : Line) : (s.setMarkChannel x).line l = s.line l := rfl
@[simp] theorem State.setMarkChannel_slot (s : State) (x : ChannelState) (i : EntryId) : (s.setMarkChannel x).slot i = s.slot i := rfl
@[simp] theorem State.setIndexChannel_port (s : State) (x : ChannelState) (p : Port) : (s.setIndexChannel x).port p = s.port p := rfl
@[simp] theorem State.setIndexChannel_line (s : State) (x : ChannelState) (l : Line) : (s.setIndexChannel x).line l = s.line l := rfl
@[simp] theorem State.setIndexChannel_slot (s : State) (x : ChannelState) (i : EntryId) : (s.setIndexChannel x).slot i = s.slot i := rfl
@[simp] theorem State.setHold_port (s : State) (x : HoldInput) (p : Port) : (s.setHold x).port p = s.port p := rfl
@[simp] theorem State.setHold_line (s : State) (x : HoldInput) (l : Line) : (s.setHold x).line l = s.line l := rfl
@[simp] theorem State.setHold_slot (s : State) (x : HoldInput) (i : EntryId) : (s.setHold x).slot i = s.slot i := rfl
@[simp] theorem State.setTracker_port (s : State) (x : Tracker) (p : Port) : (s.setTracker x).port p = s.port p := rfl
@[simp] theorem State.setTracker_line (s : State) (x : Tracker) (l : Line) : (s.setTracker x).line l = s.line l := rfl
@[simp] theorem State.setTracker_slot (s : State) (x : Tracker) (i : EntryId) : (s.setTracker x).slot i = s.slot i := rfl
@[simp] theorem State.setSlots_port (s : State) (x : Bank (Option Entry) 128) (p : Port) : (s.setSlots x).port p = s.port p := rfl
@[simp] theorem State.setSlots_line (s : State) (x : Bank (Option Entry) 128) (l : Line) : (s.setSlots x).line l = s.line l := rfl
@[simp] theorem State.setNextSeq_port (s : State) (x : Count32) (p : Port) : (s.setNextSeq x).port p = s.port p := rfl
@[simp] theorem State.setNextSeq_line (s : State) (x : Count32) (l : Line) : (s.setNextSeq x).line l = s.line l := rfl
@[simp] theorem State.setNextSeq_slot (s : State) (x : Count32) (i : EntryId) : (s.setNextSeq x).slot i = s.slot i := rfl
@[simp] theorem State.setEngine_port (s : State) (x : Engine) (p : Port) : (s.setEngine x).port p = s.port p := rfl
@[simp] theorem State.setEngine_line (s : State) (x : Engine) (l : Line) : (s.setEngine x).line l = s.line l := rfl
@[simp] theorem State.setEngine_slot (s : State) (x : Engine) (i : EntryId) : (s.setEngine x).slot i = s.slot i := rfl
@[simp] theorem State.setWalkPos_port (s : State) (x : WalkPos) (p : Port) : (s.setWalkPos x).port p = s.port p := rfl
@[simp] theorem State.setWalkPos_line (s : State) (x : WalkPos) (l : Line) : (s.setWalkPos x).line l = s.line l := rfl
@[simp] theorem State.setWalkPos_slot (s : State) (x : WalkPos) (i : EntryId) : (s.setWalkPos x).slot i = s.slot i := rfl
@[simp] theorem State.setLastFired_port (s : State) (x : Bank (Option Count32) 128) (p : Port) : (s.setLastFired x).port p = s.port p := rfl
@[simp] theorem State.setLastFired_line (s : State) (x : Bank (Option Count32) 128) (l : Line) : (s.setLastFired x).line l = s.line l := rfl
@[simp] theorem State.setLastFired_slot (s : State) (x : Bank (Option Count32) 128) (i : EntryId) : (s.setLastFired x).slot i = s.slot i := rfl
@[simp] theorem State.setLines_port (s : State) (x : Bank LineState 16) (p : Port) : (s.setLines x).port p = s.port p := rfl
@[simp] theorem State.setLines_slot (s : State) (x : Bank LineState 16) (i : EntryId) : (s.setLines x).slot i = s.slot i := rfl
@[simp] theorem State.setPorts_line (s : State) (x : PerPort PortState) (l : Line) : (s.setPorts x).line l = s.line l := rfl
@[simp] theorem State.setPorts_slot (s : State) (x : PerPort PortState) (i : EntryId) : (s.setPorts x).slot i = s.slot i := rfl
@[simp] theorem State.setGrant_port (s : State) (x : Option Port) (p : Port) : (s.setGrant x).port p = s.port p := rfl
@[simp] theorem State.setGrant_line (s : State) (x : Option Port) (l : Line) : (s.setGrant x).line l = s.line l := rfl
@[simp] theorem State.setGrant_slot (s : State) (x : Option Port) (i : EntryId) : (s.setGrant x).slot i = s.slot i := rfl
@[simp] theorem State.setPort_now (s : State) (p : Port) (x : PortState) : (s.setPort p x).now = s.now := rfl
@[simp] theorem State.setPort_draws (s : State) (p : Port) (x : PortState) : (s.setPort p x).draws = s.draws := rfl
@[simp] theorem State.setPort_pending (s : State) (p : Port) (x : PortState) : (s.setPort p x).pending = s.pending := rfl
@[simp] theorem State.setPort_markChannel (s : State) (p : Port) (x : PortState) : (s.setPort p x).markChannel = s.markChannel := rfl
@[simp] theorem State.setPort_indexChannel (s : State) (p : Port) (x : PortState) : (s.setPort p x).indexChannel = s.indexChannel := rfl
@[simp] theorem State.setPort_hold (s : State) (p : Port) (x : PortState) : (s.setPort p x).hold = s.hold := rfl
@[simp] theorem State.setPort_tracker (s : State) (p : Port) (x : PortState) : (s.setPort p x).tracker = s.tracker := rfl
@[simp] theorem State.setPort_slots (s : State) (p : Port) (x : PortState) : (s.setPort p x).slots = s.slots := rfl
@[simp] theorem State.setPort_nextSeq (s : State) (p : Port) (x : PortState) : (s.setPort p x).nextSeq = s.nextSeq := rfl
@[simp] theorem State.setPort_engine (s : State) (p : Port) (x : PortState) : (s.setPort p x).engine = s.engine := rfl
@[simp] theorem State.setPort_walkPos (s : State) (p : Port) (x : PortState) : (s.setPort p x).walkPos = s.walkPos := rfl
@[simp] theorem State.setPort_lastFired (s : State) (p : Port) (x : PortState) : (s.setPort p x).lastFired = s.lastFired := rfl
@[simp] theorem State.setPort_lines (s : State) (p : Port) (x : PortState) : (s.setPort p x).lines = s.lines := rfl
@[simp] theorem State.setPort_grant (s : State) (p : Port) (x : PortState) : (s.setPort p x).grant = s.grant := rfl
@[simp] theorem State.setPort_line (s : State) (p : Port) (x : PortState) (k : Line) : (s.setPort p x).line k = s.line k := rfl
@[simp] theorem State.setPort_slot (s : State) (p : Port) (x : PortState) (j : EntryId) : (s.setPort p x).slot j = s.slot j := rfl
@[simp] theorem State.setLine_now (s : State) (l : Line) (x : LineState) : (s.setLine l x).now = s.now := rfl
@[simp] theorem State.setLine_draws (s : State) (l : Line) (x : LineState) : (s.setLine l x).draws = s.draws := rfl
@[simp] theorem State.setLine_pending (s : State) (l : Line) (x : LineState) : (s.setLine l x).pending = s.pending := rfl
@[simp] theorem State.setLine_markChannel (s : State) (l : Line) (x : LineState) : (s.setLine l x).markChannel = s.markChannel := rfl
@[simp] theorem State.setLine_indexChannel (s : State) (l : Line) (x : LineState) : (s.setLine l x).indexChannel = s.indexChannel := rfl
@[simp] theorem State.setLine_hold (s : State) (l : Line) (x : LineState) : (s.setLine l x).hold = s.hold := rfl
@[simp] theorem State.setLine_tracker (s : State) (l : Line) (x : LineState) : (s.setLine l x).tracker = s.tracker := rfl
@[simp] theorem State.setLine_slots (s : State) (l : Line) (x : LineState) : (s.setLine l x).slots = s.slots := rfl
@[simp] theorem State.setLine_nextSeq (s : State) (l : Line) (x : LineState) : (s.setLine l x).nextSeq = s.nextSeq := rfl
@[simp] theorem State.setLine_engine (s : State) (l : Line) (x : LineState) : (s.setLine l x).engine = s.engine := rfl
@[simp] theorem State.setLine_walkPos (s : State) (l : Line) (x : LineState) : (s.setLine l x).walkPos = s.walkPos := rfl
@[simp] theorem State.setLine_lastFired (s : State) (l : Line) (x : LineState) : (s.setLine l x).lastFired = s.lastFired := rfl
@[simp] theorem State.setLine_ports (s : State) (l : Line) (x : LineState) : (s.setLine l x).ports = s.ports := rfl
@[simp] theorem State.setLine_grant (s : State) (l : Line) (x : LineState) : (s.setLine l x).grant = s.grant := rfl
@[simp] theorem State.setLine_port (s : State) (l : Line) (x : LineState) (q : Port) : (s.setLine l x).port q = s.port q := rfl
@[simp] theorem State.setLine_slot (s : State) (l : Line) (x : LineState) (j : EntryId) : (s.setLine l x).slot j = s.slot j := rfl
@[simp] theorem State.setSlot_now (s : State) (i : EntryId) (x : Option Entry) : (s.setSlot i x).now = s.now := rfl
@[simp] theorem State.setSlot_draws (s : State) (i : EntryId) (x : Option Entry) : (s.setSlot i x).draws = s.draws := rfl
@[simp] theorem State.setSlot_pending (s : State) (i : EntryId) (x : Option Entry) : (s.setSlot i x).pending = s.pending := rfl
@[simp] theorem State.setSlot_markChannel (s : State) (i : EntryId) (x : Option Entry) : (s.setSlot i x).markChannel = s.markChannel := rfl
@[simp] theorem State.setSlot_indexChannel (s : State) (i : EntryId) (x : Option Entry) : (s.setSlot i x).indexChannel = s.indexChannel := rfl
@[simp] theorem State.setSlot_hold (s : State) (i : EntryId) (x : Option Entry) : (s.setSlot i x).hold = s.hold := rfl
@[simp] theorem State.setSlot_tracker (s : State) (i : EntryId) (x : Option Entry) : (s.setSlot i x).tracker = s.tracker := rfl
@[simp] theorem State.setSlot_nextSeq (s : State) (i : EntryId) (x : Option Entry) : (s.setSlot i x).nextSeq = s.nextSeq := rfl
@[simp] theorem State.setSlot_engine (s : State) (i : EntryId) (x : Option Entry) : (s.setSlot i x).engine = s.engine := rfl
@[simp] theorem State.setSlot_walkPos (s : State) (i : EntryId) (x : Option Entry) : (s.setSlot i x).walkPos = s.walkPos := rfl
@[simp] theorem State.setSlot_lastFired (s : State) (i : EntryId) (x : Option Entry) : (s.setSlot i x).lastFired = s.lastFired := rfl
@[simp] theorem State.setSlot_lines (s : State) (i : EntryId) (x : Option Entry) : (s.setSlot i x).lines = s.lines := rfl
@[simp] theorem State.setSlot_ports (s : State) (i : EntryId) (x : Option Entry) : (s.setSlot i x).ports = s.ports := rfl
@[simp] theorem State.setSlot_grant (s : State) (i : EntryId) (x : Option Entry) : (s.setSlot i x).grant = s.grant := rfl
@[simp] theorem State.setSlot_port (s : State) (i : EntryId) (x : Option Entry) (q : Port) : (s.setSlot i x).port q = s.port q := rfl
@[simp] theorem State.setSlot_line (s : State) (i : EntryId) (x : Option Entry) (k : Line) : (s.setSlot i x).line k = s.line k := rfl

@[simp] theorem State.setPort_port_self (s : State) (p : Port) (x : PortState) : (s.setPort p x).port p = x := by
  simp [State.port, State.setPort]

theorem State.setPort_port (s : State) (p q : Port) (x : PortState) :
    (s.setPort p x).port q = if p = q then x else s.port q := by
  simp [State.port, State.setPort, PerPort.get_set]

theorem State.setPort_port_ne (s : State) {p q : Port} (x : PortState) (h : q ≠ p) :
    (s.setPort p x).port q = s.port q := by
  rw [State.setPort_port, if_neg (Ne.symm h)]

@[simp] theorem State.setPort_setPort (s : State) (p : Port) (x y : PortState) :
    (s.setPort p x).setPort p y = s.setPort p y := by
  simp [State.setPort]

@[simp] theorem State.setPort_same (s : State) (p : Port) : s.setPort p (s.port p) = s := by
  simp [State.setPort, State.port, State.setPorts]

@[simp] theorem State.setLine_line_self (s : State) (l : Line) (x : LineState) : (s.setLine l x).line l = x := by
  simp [State.line, State.setLine]

theorem State.setLine_line (s : State) (l k : Line) (x : LineState) :
    (s.setLine l x).line k = if l = k then x else s.line k := by
  simp [State.line, State.setLine, Bank.get_set]

theorem State.setLine_line_ne (s : State) {l k : Line} (x : LineState) (h : k ≠ l) :
    (s.setLine l x).line k = s.line k := by
  rw [State.setLine_line, if_neg (Ne.symm h)]

@[simp] theorem State.setSlot_slot_self (s : State) (i : EntryId) (x : Option Entry) : (s.setSlot i x).slot i = x := by
  simp [State.slot, State.setSlot]

theorem State.setSlot_slot (s : State) (i j : EntryId) (x : Option Entry) :
    (s.setSlot i x).slot j = if i = j then x else s.slot j := by
  simp [State.slot, State.setSlot, Bank.get_set]

theorem State.setSlot_slot_ne (s : State) {i j : EntryId} (x : Option Entry) (h : j ≠ i) :
    (s.setSlot i x).slot j = s.slot j := by
  rw [State.setSlot_slot, if_neg (Ne.symm h)]

@[simp] theorem State.setPorts_port (s : State) (x : PerPort PortState) (p : Port) : (s.setPorts x).port p = x.get p := rfl

@[simp] theorem State.setLines_line (s : State) (x : Bank LineState 16) (l : Line) : (s.setLines x).line l = x.get l := rfl

@[simp] theorem State.setSlots_slot (s : State) (x : Bank (Option Entry) 128) (i : EntryId) :
    (s.setSlots x).slot i = x.get i := rfl

theorem State.ports_get (s : State) (p : Port) : s.ports.get p = s.port p := rfl

theorem State.lines_get (s : State) (l : Line) : s.lines.get l = s.line l := rfl

theorem State.slots_get (s : State) (i : EntryId) : s.slots.get i = s.slot i := rfl

/-- Two states with the same fields are the same; the ports are compared one by one. -/
theorem State.ext_fields (s u : State) (hnow : s.now = u.now) (hdraws : s.draws = u.draws) (hpending : s.pending = u.pending) 
    (hmarkChannel : s.markChannel = u.markChannel) (hindexChannel : s.indexChannel = u.indexChannel) (hhold : s.hold = u.hold) 
    (htracker : s.tracker = u.tracker) (hslots : s.slots = u.slots) (hnextSeq : s.nextSeq = u.nextSeq) 
    (hengine : s.engine = u.engine) (hwalkPos : s.walkPos = u.walkPos) 
    (hlastFired : s.lastFired = u.lastFired) (hlines : s.lines = u.lines) (hgrant : s.grant = u.grant) 
    (hports : ∀ p, s.port p = u.port p) : s = u := by
  have hp := PerPort.ext_get s.ports u.ports hports
  cases s
  cases u
  simp_all

end Sys2Proof.Machine
end

