-- ==== Sys2Proof/Laws/Ops.lean ====
section
/-! SUPPORT. One lemma for each shared operation, saying once what it does, so that no proof unfolds it: time, frames and
admission, replies, posting, the engine. -/

namespace Sys2Proof.Machine

/-! ### Time -/

@[simp] theorem State.advanceTo_now (s : State) (t : Nat) : (s.advanceTo t).now = max s.now t := rfl
@[simp] theorem State.advanceTo_draws (s : State) (t : Nat) : (s.advanceTo t).draws = s.draws := rfl
@[simp] theorem State.advanceTo_pending (s : State) (t : Nat) : (s.advanceTo t).pending = s.pending := rfl
@[simp] theorem State.advanceTo_tracker (s : State) (t : Nat) : (s.advanceTo t).tracker = s.tracker := rfl
@[simp] theorem State.advanceTo_slots (s : State) (t : Nat) : (s.advanceTo t).slots = s.slots := rfl
@[simp] theorem State.advanceTo_nextSeq (s : State) (t : Nat) : (s.advanceTo t).nextSeq = s.nextSeq := rfl
@[simp] theorem State.advanceTo_engine (s : State) (t : Nat) : (s.advanceTo t).engine = s.engine := rfl
@[simp] theorem State.advanceTo_walkPos (s : State) (t : Nat) : (s.advanceTo t).walkPos = s.walkPos := rfl
@[simp] theorem State.advanceTo_lastFired (s : State) (t : Nat) : (s.advanceTo t).lastFired = s.lastFired := rfl
@[simp] theorem State.advanceTo_lines (s : State) (t : Nat) : (s.advanceTo t).lines = s.lines := rfl
@[simp] theorem State.advanceTo_ports (s : State) (t : Nat) : (s.advanceTo t).ports = s.ports := rfl
@[simp] theorem State.advanceTo_grant (s : State) (t : Nat) : (s.advanceTo t).grant = s.grant := rfl
@[simp] theorem State.advanceTo_port (s : State) (t : Nat) (p : Port) : (s.advanceTo t).port p = s.port p := rfl
@[simp] theorem State.advanceTo_line (s : State) (t : Nat) (l : Line) : (s.advanceTo t).line l = s.line l := rfl
@[simp] theorem State.advanceTo_slot (s : State) (t : Nat) (i : EntryId) : (s.advanceTo t).slot i = s.slot i := rfl

@[simp] theorem ChannelState.settle_pin (c : ChannelState) (t : Nat) : (c.settle t).pin = c.pin := by
  unfold ChannelState.settle; split <;> first | rfl | (split <;> rfl)

@[simp] theorem HoldInput.settle_pin (h : HoldInput) (t : Nat) : (h.settle t).pin = h.pin := by
  unfold HoldInput.settle; split <;> first | rfl | (split <;> rfl)

@[simp] theorem ChannelState.settle_sampled (c : ChannelState) (t : Nat) : (c.settle t).sampled = c.sampled := by
  unfold ChannelState.settle; split <;> first | rfl | (split <;> rfl)

@[simp] theorem ChannelState.settle_hold (c : ChannelState) (t : Nat) : (c.settle t).hold = c.hold := by
  unfold ChannelState.settle; split <;> first | rfl | (split <;> rfl)

@[simp] theorem HoldInput.settle_sampled (h : HoldInput) (t : Nat) : (h.settle t).sampled = h.sampled := by
  unfold HoldInput.settle; split <;> first | rfl | (split <;> rfl)

@[simp] theorem State.advanceTo_hold_sampled (s : State) (t : Nat) :
    (s.advanceTo t).hold.sampled = s.hold.sampled := by
  simp [State.advanceTo]

@[simp] theorem State.advanceTo_hold_pin (s : State) (t : Nat) : (s.advanceTo t).hold.pin = s.hold.pin := by
  simp [State.advanceTo]

theorem HoldInput.settle_awaiting_none (h : HoldInput) (t : Nat) (hn : h.awaiting = none) :
    (h.settle t).awaiting = none := by
  simp [HoldInput.settle, hn]

/-! ### The state of a port along a frame -/

@[simp] theorem PortState.afterFrame_slot (ps : PortState) (n : Nat) : (ps.afterFrame n).slot = ps.slot := rfl
@[simp] theorem PortState.afterFrame_reply (ps : PortState) (n : Nat) : (ps.afterFrame n).reply = ps.reply := rfl
@[simp] theorem PortState.afterFrame_epoch (ps : PortState) (n : Nat) : (ps.afterFrame n).epoch = ps.epoch := rfl
@[simp] theorem PortState.afterFrame_quota (ps : PortState) (n : Nat) : (ps.afterFrame n).quota = ps.quota := rfl
@[simp] theorem PortState.afterFrame_queue (ps : PortState) (n : Nat) : (ps.afterFrame n).queue = ps.queue := rfl
@[simp] theorem PortState.afterFrame_queueSeq (ps : PortState) (n : Nat) :
    (ps.afterFrame n).queueSeq = ps.queueSeq := rfl
@[simp] theorem PortState.afterFrame_mask (ps : PortState) (n : Nat) : (ps.afterFrame n).mask = ps.mask := rfl
@[simp] theorem PortState.afterFrame_interval (ps : PortState) (n : Nat) :
    (ps.afterFrame n).interval = ps.interval := rfl
@[simp] theorem PortState.afterFrame_attention (ps : PortState) (n : Nat) :
    (ps.afterFrame n).attention = ps.attention := rfl
@[simp] theorem PortState.afterFrame_transaction (ps : PortState) (n : Nat) :
    (ps.afterFrame n).transaction = .none := rfl

@[simp] theorem PortState.afterFrame_isOpen (ps : PortState) (n : Nat) : (ps.afterFrame n).isOpen = ps.isOpen := by
  unfold PortState.afterFrame PortState.isOpen; cases ps.session <;> rfl

@[simp] theorem PortState.afterFrame_isClosed (ps : PortState) (n : Nat) :
    (ps.afterFrame n).isClosed = ps.isClosed := by
  unfold PortState.afterFrame PortState.isClosed; cases ps.session <;> rfl

@[simp] theorem CauseSet.union_reply (c : CauseSet) :
    c.union { CauseSet.empty with reply := true } = c.withReply := by
  simp [CauseSet.union, CauseSet.empty, CauseSet.withReply]

theorem PortState.passToDone_eq (ps : PortState) (tag : Tag) (st : Status) (body : List Byte) :
    ps.passToDone tag st body = ps.replied tag st body := by
  simp [PortState.passToDone, PortState.replied, Attention.latch]

theorem PortState.isOpen_eq_true (ps : PortState) : ps.isOpen = true ↔ ∃ limit start, ps.session = .opened limit start := by
  unfold PortState.isOpen; cases ps.session <;> simp

theorem PortState.isClosed_eq_true (ps : PortState) : ps.isClosed = true ↔ ps.session = .closed := by
  unfold PortState.isClosed; cases ps.session <;> simp

theorem PortState.not_closed_of_open (ps : PortState) (h : ps.isOpen = true) : ps.isClosed = false := by
  revert h; unfold PortState.isOpen PortState.isClosed; cases ps.session <;> simp

/-! ### Frames -/

/-- What a taken frame does before its request acts. -/
theorem State.endTransaction_aliveNotice (s : State) (p : Port) :
    (s.endTransaction p 64).aliveNotice p = s.setPort p ((s.port p).afterFrame s.now) := by
  unfold State.aliveNotice
  simp only [State.endTransaction, State.setPort_port_self]
  split <;> rename_i h <;> simp_all [PortState.afterFrame, State.setPort]

@[simp] theorem State.onlyFrame_port_self (s : State) (t : Nat) (p : Port) :
    (s.onlyFrame t p).port p = (s.port p).afterFrame (max s.now t) := by
  simp [State.onlyFrame]

theorem State.onlyFrame_port (s : State) (t : Nat) (p q : Port) :
    (s.onlyFrame t p).port q = if p = q then (s.port p).afterFrame (max s.now t) else s.port q := by
  simp [State.onlyFrame, State.setPort_port]

@[simp] theorem State.onlyFrame_line (s : State) (t : Nat) (p : Port) (l : Line) : (s.onlyFrame t p).line l = s.line l := rfl
@[simp] theorem State.onlyFrame_slot (s : State) (t : Nat) (p : Port) (i : EntryId) :
    (s.onlyFrame t p).slot i = s.slot i := rfl
@[simp] theorem State.onlyFrame_slots (s : State) (t : Nat) (p : Port) : (s.onlyFrame t p).slots = s.slots := rfl
@[simp] theorem State.onlyFrame_lines (s : State) (t : Nat) (p : Port) : (s.onlyFrame t p).lines = s.lines := rfl
@[simp] theorem State.onlyFrame_tracker (s : State) (t : Nat) (p : Port) : (s.onlyFrame t p).tracker = s.tracker := rfl
@[simp] theorem State.onlyFrame_grant (s : State) (t : Nat) (p : Port) : (s.onlyFrame t p).grant = s.grant := rfl
@[simp] theorem State.onlyFrame_engine (s : State) (t : Nat) (p : Port) : (s.onlyFrame t p).engine = s.engine := rfl
@[simp] theorem State.onlyFrame_draws (s : State) (t : Nat) (p : Port) : (s.onlyFrame t p).draws = s.draws := rfl
@[simp] theorem State.onlyFrame_now (s : State) (t : Nat) (p : Port) : (s.onlyFrame t p).now = max s.now t := rfl
@[simp] theorem State.onlyFrame_pending (s : State) (t : Nat) (p : Port) : (s.onlyFrame t p).pending = s.pending := rfl
@[simp] theorem State.onlyFrame_walkPos (s : State) (t : Nat) (p : Port) : (s.onlyFrame t p).walkPos = s.walkPos := rfl
@[simp] theorem State.onlyFrame_nextSeq (s : State) (t : Nat) (p : Port) : (s.onlyFrame t p).nextSeq = s.nextSeq := rfl
@[simp] theorem State.onlyFrame_lastFired (s : State) (t : Nat) (p : Port) :
    (s.onlyFrame t p).lastFired = s.lastFired := rfl

/-- What a frame does, by the transaction and the slot it finds. -/
theorem State.takeFrame_eq (s : State) (t : Nat) (p : Port) (act : State → State) :
    s.takeFrame t p act =
      if (s.port p).transaction = .ignored then
        (s.advanceTo t).setPort p { s.port p with transaction := .none }
      else if (s.port p).slot = .idle then act (s.onlyFrame t p)
      else s.onlyFrame t p := by
  unfold State.takeFrame
  simp only [State.endTransaction_aliveNotice, State.advanceTo_port, State.advanceTo_now, State.setPort_port_self,
    PortState.afterFrame_slot]
  split <;> rename_i h
  · simp [h, State.endIgnored, State.endTransaction]
  · rw [if_neg (by simpa using h)]
    split <;> rename_i h' <;> simp_all [State.onlyFrame]

theorem State.takeFrame_idle (s : State) (t : Nat) (p : Port) (act : State → State) (h : s.TakesRequests p) :
    s.takeFrame t p act = act (s.onlyFrame t p) := by
  rw [State.takeFrame_eq, if_neg h.attached, if_pos h.idle]

theorem State.takeFrame_busy (s : State) (t : Nat) (p : Port) (act : State → State) (hw : (s.port p).slot ≠ .idle)
    (ha : (s.port p).transaction ≠ .ignored) : s.takeFrame t p act = s.onlyFrame t p := by
  rw [State.takeFrame_eq, if_neg ha, if_neg hw]

theorem State.takeFrame_ignored (s : State) (t : Nat) (p : Port) (act : State → State)
    (h : (s.port p).transaction = .ignored) :
    s.takeFrame t p act = (s.advanceTo t).setPort p { s.port p with transaction := .none } := by
  rw [State.takeFrame_eq, if_pos h]

/-- A property of the state holds after a frame if it holds after each of the three things a frame can do. -/
theorem State.takeFrame_ind {P : State → Prop} (s : State) (t : Nat) (p : Port) (act : State → State)
    (hi : P ((s.advanceTo t).setPort p { s.port p with transaction := .none })) (hf : P (s.onlyFrame t p))
    (ha : s.TakesRequests p → P (act (s.onlyFrame t p))) : P (s.takeFrame t p act) := by
  rw [State.takeFrame_eq]
  split
  · exact hi
  · rename_i h
    split
    · rename_i h'
      exact ha ⟨h', h⟩
    · exact hf

theorem State.Admits.takes {s : State} {p : Port} (h : s.Admits p) : s.TakesRequests p := ⟨h.idle, h.attached⟩

/-! ### Admission and replies -/

theorem State.reply_eq (s : State) (p : Port) (tag : Tag) (st : Status) (body : List Byte) :
    s.reply p tag st body = s.setPort p ((s.port p).replied tag st body) := by
  rw [State.reply, PortState.passToDone_eq]

theorem State.onlyFrame_reply (s : State) (t : Nat) (p : Port) (tag : Tag) (st : Status) (body : List Byte) :
    (s.onlyFrame t p).reply p tag st body = s.answers t p tag st body := by
  simp [State.reply_eq, State.onlyFrame, State.answers, PortState.answered, State.setPort]

/-- What admission does: the first failing check answers, and otherwise the request acts. -/
theorem State.admit_ind {α : Type} {P : State → Prop} (s : State) (p : Port) (tag rsv : Tag) (needs : Needs)
    (args : Option α) (act : α → State → State) (hr : ∀ st, P (s.reply p tag st []))
    (ha : ∀ a, args = some a → (needs.session = true → (s.port p).isOpen = true) →
      (needs.grant = true → s.grant = some p) → needs.tracker s.tracker.state = true → P (act a s)) :
    P (s.admission p tag rsv needs args act) := by
  unfold State.admission
  split
  · exact hr _
  · split
    · exact hr _
    · split
      · exact hr _
      · split
        · exact hr _
        · cases args with
          | none => exact hr _
          | some a => refine ha a rfl ?_ ?_ ?_ <;> simp_all

theorem State.admit_ok {α : Type} (s : State) (p : Port) (tag : Tag) (needs : Needs) (a : α)
    (act : α → State → State) (hs : needs.session = true → (s.port p).isOpen = true)
    (hg : needs.grant = true → s.grant = some p) (ht : needs.tracker s.tracker.state = true) :
    s.admission p tag 0 needs (some a) act = act a s := by
  unfold State.admission
  rw [if_neg (by rintro ⟨h, h'⟩; simp [hs h] at h'), if_neg (by rintro ⟨h, h'⟩; exact h' (hg h)),
    if_neg (by simp [ht]), if_neg (by simp)]

@[simp] theorem State.beginLong_port_self (s : State) (p : Port) (r : LongRequest) (tag : Tag) :
    (s.beginLong p r tag).port p = { s.port p with slot := .working r tag, reply := .pending tag (s.port p).epoch } := by
  simp [State.beginLong, PortState.passToPending]

theorem State.onlyFrame_beginLong (s : State) (t : Nat) (p : Port) (r : LongRequest) (tag : Tag) :
    (s.onlyFrame t p).beginLong p r tag =
      (s.advanceTo t).setPort p ((s.port p).begun (max s.now t) r tag) := by
  simp [State.beginLong, State.onlyFrame, PortState.begun, PortState.passToPending, State.setPort]

theorem State.finishLong_eq (s : State) (p : Port) (r : LongRequest) (st : Status) (body : List Byte) :
    s.finishLong p r st body = s.setPort p ((s.port p).completed r st body) := by
  unfold State.finishLong PortState.completed
  cases h : (s.port p).slot with
  | working r' tag =>
    by_cases h' : r' = r
    · simp [h', PortState.passToDone_eq]
    · simp [h']
  | idle => simp
  | teardown tag => simp

/-! ### Posting -/

theorem State.post_port (s : State) (dest : Port → PortState → Bool) (r : Record) (q : Port) :
    (s.post dest r).port q = if dest q (s.port q) then (s.port q).arrive r else s.port q := by
  show (s.ports.mapPort _).get q = _
  rw [PerPort.get_mapPort]
  rfl


end Sys2Proof.Machine
end

