-- ==== Sys2Proof/Laws/Jobs.lean ====
section
/-! SUPPORT. The Table Engine, teardowns, counts and hand-overs: what each shared operation makes of the state. -/

namespace Sys2Proof.Machine

/-! ### Banks and counts -/

theorem Bank.cells_eq {α : Type} {n : Nat} (b : Bank α n) : b.cells = (List.finRange n).map b.get := by
  obtain ⟨c, hc⟩ := b
  subst hc
  refine List.ext_getElem (by simp) fun i h1 h2 => ?_
  simp [Bank.get]

theorem Bank.indexed_eq {α : Type} {n : Nat} (b : Bank α n) :
    b.indexed = (List.finRange n).map fun i => (i, b.get i) := by
  rw [Bank.indexed, Bank.cells_eq, List.zip_map_right]
  apply List.ext_getElem <;> simp

theorem State.entryCount_eq (s : State) (p : Port) :
    s.entryCount p = s.slotsWith fun e => decide (e.owner = p) := by
  rw [State.entryCount, State.ownedIds, Bank.indexed_eq, State.slotsWith, List.filterMap_map]
  generalize List.finRange 128 = ids
  induction ids with
  | nil => rfl
  | cons i ids ih =>
    simp only [List.filterMap_cons, List.filter_cons, Function.comp, State.slot] at ih ⊢
    cases h : s.slots.get i with
    | none => simp [ih]
    | some e => by_cases ho : e.owner = p <;> simp [ho, ih]

theorem State.countEntries_eq (s : State) (test : Entry → Bool) : s.countEntries test = s.slotsWith test := by
  rw [State.countEntries, State.slotsWith, Bank.cells_eq, List.filter_map, List.length_map]
  rfl

/-- The lowest empty slot, and no slot below it is empty. -/
theorem State.lowestEmpty_eq_some (s : State) (i : EntryId) :
    s.lowestEmpty = some i ↔ s.slot i = none ∧ ∀ j < i, s.slot j ≠ none := by
  rw [State.lowestEmpty, Bank.indexed_eq, List.find?_map, Option.map_map]
  simp only [Option.map_eq_some_iff, Function.comp, State.slot]
  constructor
  · rintro ⟨j, hj, rfl⟩
    have h1 := List.find?_some hj
    obtain ⟨_, as, bs, hl, hn⟩ := List.find?_eq_some_iff_append.1 hj
    refine ⟨by simpa using h1, fun k hk hkn => ?_⟩
    have hmem : k ∈ as := by
      have hsorted : (as ++ j :: bs).Pairwise (· < ·) := hl ▸ List.pairwise_lt_finRange 128
      have hk' : k ∈ as ++ j :: bs := hl ▸ List.mem_finRange k
      rcases List.mem_append.1 hk' with h | h
      · exact h
      · rw [List.pairwise_append] at hsorted
        rcases List.mem_cons.1 h with h | h
        · exact absurd (h ▸ hk) (lt_irrefl _)
        · exact absurd (lt_trans ((List.pairwise_cons.1 hsorted.2.1).1 k h) hk) (lt_irrefl _)
    have := hn k hmem
    simp [hkn] at this
  · rintro ⟨h1, h2⟩
    cases hf : (List.finRange 128).find? (fun j => (s.slots.get j).isNone) with
    | none =>
      have := List.find?_eq_none.1 hf i (List.mem_finRange i)
      simp [h1] at this
    | some j =>
      obtain ⟨hj, as, bs, hl, hn⟩ := List.find?_eq_some_iff_append.1 hf
      refine ⟨j, rfl, ?_⟩
      have hi : i ∈ as ++ j :: bs := hl ▸ List.mem_finRange i
      have hsorted : (as ++ j :: bs).Pairwise (· < ·) := hl ▸ List.pairwise_lt_finRange 128
      rcases List.mem_append.1 hi with h | h
      · have := hn i h
        simp [h1] at this
      · rcases List.mem_cons.1 h with h | h
        · exact h.symm
        · rw [List.pairwise_append] at hsorted
          exact absurd (by simpa using hj) (h2 j ((List.pairwise_cons.1 hsorted.2.1).1 i h))

theorem State.lowestEmpty_eq_none (s : State) : s.lowestEmpty = none ↔ ∀ i, s.slot i ≠ none := by
  rw [State.lowestEmpty, Bank.indexed_eq, List.find?_map, Option.map_map, Option.map_eq_none_iff, List.find?_eq_none]
  simp [State.slot, Function.comp]

/-! ### The engine -/

theorem State.postPortJob_eq (s : State) (p : Port) (j : PortJob) :
    s.postPortJob p j =
      { s with
        draws := s.draws + 1
        engine := Engine.choose { s.engine with waiting := s.engine.waiting.set p (some j) } s.now s.draws } := rfl

theorem State.postInternalJob_eq (s : State) (j : InternalJob) :
    s.postInternalJob j =
      { s with
        draws := s.draws + 1
        engine := Engine.choose { s.engine with internal := s.engine.internal ++ [j] } s.now s.draws } := rfl

theorem State.ripeJob_eq_some (s : State) (j : Job) :
    s.ripeJob = some j ↔ ∃ v, s.engine.service = some v ∧ v.takenAt < s.now ∧ v.job = j := by
  unfold State.ripeJob
  cases s.engine.service with
  | none => simp
  | some v => by_cases h : v.takenAt < s.now <;> simp [h]

/-! ### Lines -/

theorem LineState.makeSafe_eq (l : LineState) : l.makeSafe = l.safed := by
  cases h : l.mode <;> simp [LineState.makeSafe, LineState.safed, h, LineState.leaveTo]

theorem LineState.withdraw_eq (l : LineState) :
    l.withdraw = if l.mode = .run then { l with mode := .ready, active := false, pulse := .none } else l := by
  cases h : l.mode <;> simp [LineState.withdraw, h, LineState.leaveTo]

theorem LineState.enterRun_eq (l : LineState) :
    l.enterRun = if l.mode = .ready then { l with mode := .run, active := false, pulse := .none } else l := by
  cases h : l.mode <;> simp [LineState.enterRun, h, LineState.leaveTo]

theorem LineState.teardownBegun_eq (p : Port) (l : LineState) :
    LineState.teardownBegun p l = LineState.afterTeardownOf p l := by
  simp only [LineState.teardownBegun, LineState.afterTeardownOf, LineState.makeSafe_eq, LineState.dropWaiter]
  unfold LineState.safed
  split <;> [split <;> rfl; rfl]

theorem placeOf_eq (l : LineState) (p : Port) : Machine.placeOf p l.waiting = l.placeOf p := by
  have key : ∀ ws : List Waiter, (ws.findIdx? fun w => decide (w.port = p)) =
      if p ∈ ws.map (·.port) then some ((ws.map (·.port)).idxOf p) else none := by
    intro ws
    induction ws with
    | nil => simp
    | cons w ws ih =>
      rw [List.findIdx?_cons, ih, List.map_cons, List.idxOf_cons]
      by_cases h : w.port = p
      · simp [h]
      · have h' : p ≠ w.port := fun x => h x.symm
        have hb : (w.port == p) = false := by simpa using h
        simp only [h, decide_false, List.mem_cons, h', false_or, hb]
        by_cases hm : p ∈ ws.map (·.port) <;> simp [hm]
  unfold Machine.placeOf LineState.placeOf
  rw [key]
  by_cases h : p ∈ l.waiting.map (·.port) <;> simp [h]

theorem LineState.placeOf_ne_zero (l : LineState) (p : Port) : l.placeOf p ≠ 0 ↔ p ∈ l.waiting.map (·.port) := by
  unfold LineState.placeOf
  split <;> simp_all

/-- A hand-over: the line is handed over, and LINE_GRANTED arrives at the new owner. -/
theorem State.handOver_eq (s : State) (l : Line) :
    s.handOver l =
      { s with
        lines := s.lines.set l (s.line l).handedOver
        ports := s.ports.mapPort fun q ps =>
          if ((s.line l).waiting.head?.map (·.port)) = some q ∧ ps.isClosed = false then
            ps.arrive (s.stamp (.lineGranted l))
          else ps } := by
  cases hw : (s.line l).waiting with
  | nil =>
    simp only [State.handOver, hw, LineState.handedOver]
    apply State.ext_fields <;> try rfl
    intro q
    change _ = (s.ports.mapPort _).get q
    simp [State.port]
  | cons w ws =>
    simp only [State.handOver, hw, LineState.handedOver]
    apply State.ext_fields <;> try rfl
    intro q
    change _ = (s.ports.mapPort _).get q
    rw [State.post_port, PerPort.get_mapPort]
    simp only [toOwner, Bool.and_eq_true, decide_eq_true_eq, Bool.not_eq_true', List.head?_cons,
      Option.map_some, Option.some.injEq, State.port]
    by_cases hq : q = w.port
    · subst hq; simp [State.stamp, State.recordNow]
    · have hq' : ¬w.port = q := fun x => hq x.symm
      simp [hq, hq']

/-! ### Teardowns -/

theorem State.silenceDue_eq_true (s : State) (p : Port) :
    s.silenceDue p = true ↔
      ∃ limit start, (s.port p).session = .opened limit start ∧ limit * 1000 ≤ s.now - start := by
  unfold State.silenceDue
  cases (s.port p).session <;> simp


/-- Steps 3 to 5 of a teardown's beginning. -/
theorem State.beginTeardown_eq (s : State) (p : Port) :
    s.beginTeardown p =
      { s with
        draws := s.draws + 1
        lines := s.lines.map (LineState.afterTeardownOf p)
        grant := if s.grant = some p then none else s.grant
        engine :=
          Engine.choose { s.engine with waiting := s.engine.waiting.set p none,
                                        internal := s.engine.internal ++ [.sweep p] } s.now s.draws } := by
  have hl : s.lines.map (LineState.teardownBegun p) = s.lines.map (LineState.afterTeardownOf p) :=
    congrArg (fun f => s.lines.map f) (funext (LineState.teardownBegun_eq p))
  by_cases hg : s.grant = some p
  · simp [State.beginTeardown, State.withdrawJob, State.postInternalJob_eq, hg, State.setEngine, State.setLines,
      State.setGrant, hl]
  · simp [State.beginTeardown, State.withdrawJob, State.postInternalJob_eq, hg, State.setEngine, State.setLines, hl]

/-! ### The line clear -/

/-- A line clear finds its pulse exactly where an entry that it removes set the pulse pending on the line. -/
theorem State.pulseIsOf_eq_true (s : State) (p : Port) (l : Line) :
    s.pulseIsOf p l = true ↔
      ∃ i e, s.slot i = some e ∧ (e.owner = p ∧ e.fields.line = l) ∧ (s.line l).pulse.setBy i e.seq = true := by
  rw [State.pulseIsOf, Bank.indexed_eq]
  simp only [List.any_map, List.any_eq_true, List.mem_finRange, true_and, Function.comp, Option.any_eq_true,
    Entry.isOn, Bool.and_eq_true, decide_eq_true_eq]
  rfl

end Sys2Proof.Machine
end

