-- ==== Sys2Proof/Laws/Tracker.lean ====
section
/-! SUPPORT. The tracker's shared operations: the ring and E, the phase count, and what a loss of tracking makes of the
state. -/

namespace Sys2Proof.Machine

theorem TrackerState.tracks_eq_true (st : TrackerState) : st.tracks = true ↔ st = .locked ∨ st = .coasting := by
  cases st <;> simp [TrackerState.tracks]

/-! ### The ring and E -/

theorem newestOf_eq_drop {α : Type} (k : Nat) (l : List α) : newestOf k l = l.drop (l.length - k) := by
  simp [newestOf, List.take_reverse]

theorem pushRing_eq (ring : List Nat) (d : Nat) : pushRing ring d = newestOf 8 (ring ++ [d]) := by
  simp [pushRing, newestOf_eq_drop]

theorem meanNewest_eq (d : Nat) (ring : List Nat) : meanNewest d ring = floorMean (newestOf d ring) := by
  simp [meanNewest, floorMean, newestOf_eq_drop]

theorem Tracker.enter_eq (t : Tracker) (d : Nat) : t.enter d = t.withInterval d := by
  simp [Tracker.enter, Tracker.withInterval, pushRing_eq, meanNewest_eq]

theorem length_newestOf {α : Type} (k : Nat) (l : List α) : (newestOf k l).length = min k l.length := by
  simp [newestOf]

theorem mem_of_mem_newestOf {α : Type} {k : Nat} {l : List α} {a : α} (h : a ∈ newestOf k l) : a ∈ l := by
  rw [newestOf_eq_drop] at h
  exact List.mem_of_mem_drop h

/-! ### Marks -/

theorem Tracker.acquirePosition_eq (t : Tracker) : t.acquirePosition = t.positionTaken := by
  unfold Tracker.acquirePosition Tracker.positionTaken
  cases t.indexPending <;> cases t.markPos <;> cases t.config.indexUse <;> simp

theorem Tracker.acquire_eq (t : Tracker) (n : Nat) : t.acquire n = t.acquired n := by
  simp only [Tracker.acquire, Tracker.acquired, Tracker.acquirePosition_eq, Tracker.acquireInterval, Config.maxInterval]
  have hseen : (t.indexSeen && decide (t.positionTaken ≠ some 0)) =
      if t.positionTaken = some 0 then false else t.indexSeen := by
    by_cases h : t.positionTaken = some 0 <;> simp [h]
  rw [hseen]
  cases t.reference with
  | none => rfl
  | some r =>
    simp only [Tracker.enter_eq]
    by_cases h1 : n - r.time = 0
    · simp [h1]
    · by_cases h2 : n - r.time ≤ 8388607
      · rw [if_neg (by omega)]; simp [h1, h2]
      · rw [if_pos (by omega)]; simp [h1, h2]

theorem Tracker.accept_eq (t : Tracker) (r : Reference) (n : Nat) (h : t.reference = some r) :
    t.accept n = t.accepted r n := by
  simp only [Tracker.accept, Tracker.accepted, Tracker.elapsed, h, genuineRange, Config.maxInterval, Tracker.enter_eq,
    decide_eq_true_eq]

theorem Tracker.substitute_eq (t : Tracker) (r : Reference) (h : t.reference = some r) :
    t.substitute = t.substituted r := by
  simp [Tracker.substitute, Tracker.substituted, h]

theorem Tracker.elapsed_eq (t : Tracker) (r : Reference) (n : Nat) (h : t.reference = some r) :
    t.elapsed n = n - r.time := by
  simp [Tracker.elapsed, h]

theorem Tracker.phaseAt_eq (t : Tracker) (r : Reference) (k now : Nat) (h : t.reference = some r)
    (hk : t.markPos = some k) : t.phaseAt now = phaseFormula t.config.marks t.estimate k (now - r.time) := by
  simp [Tracker.phaseAt, phaseFormula, Tracker.elapsed, h, hk, TrackerConfig.span, Config.phaseCounts]

/-- The phase lies within the span of the mark position. -/
theorem phaseFormula_bounds (m e k d : Nat) (hm : m ∈ [1, 2, 4, 8, 16, 32, 64]) (hk : k < m) :
    k * (4096 / m) ≤ phaseFormula m e k d ∧ phaseFormula m e k d < (k + 1) * (4096 / m) ∧
      phaseFormula m e k d ≤ 4095 := by
  have hmin := Nat.min_le_right (d * (4096 / m) / e) (4096 / m - 1)
  unfold phaseFormula
  generalize min (d * (4096 / m) / e) (4096 / m - 1) = x at hmin
  simp only [List.mem_cons, List.not_mem_nil, or_false] at hm
  rcases hm with rfl | rfl | rfl | rfl | rfl | rfl | rfl <;> omega

/-! ### The end of tracking -/

theorem State.trackingEnded_eq (s : State) : s.trackingEnded = s.untracked := by
  have hl : s.lines.map LineState.withdraw =
      s.lines.map fun l => if l.mode = .run then { l with mode := .ready, active := false, pulse := .none } else l :=
    congrArg (fun f => s.lines.map f) (funext LineState.withdraw_eq)
  unfold State.trackingEnded State.untracked
  simp only [State.setWalkPos, State.setSlots, State.setLines, hl]
  rfl

theorem State.post_eq (s : State) (dest : Port → PortState → Bool) (r : Record) :
    s.post dest r = { s with ports := s.ports.mapPort fun p ps => if dest p ps then ps.arrive r else ps } := rfl

theorem State.postState_eq (s : State) (phase : Option Nat) (cycle : Count32) (old new : TrackerState)
    (cause : StateCause) :
    s.postState phase cycle old new cause =
      { s with
        ports := s.ports.mapPort fun _ ps =>
          if ps.isOpen && ps.mask.state then
            ps.arrive { phase := phase, cycle := cycle, payload := .state old new cause }
          else ps } := rfl

theorem State.loseTracking_eq (s : State) (cause : StateCause) :
    s.loseTracking cause =
      { s.untracked with
        tracker := s.tracker.lost
        ports := s.ports.mapPort fun _ ps =>
          if ps.isOpen && ps.mask.state then
            ps.arrive { phase := none, cycle := s.tracker.cycle, payload := .state s.tracker.state .lost cause }
          else ps } := by
  simp only [State.loseTracking, State.trackingEnded_eq, State.postState_eq]
  rfl

/-- The end of tracking asked for by STOP_TRACKER, in a state other than STOPPED. -/
theorem State.stopTracker_eq (s : State) :
    s.stopTracker =
      { (if s.tracker.state.tracks then s.untracked else s) with
        tracker := { s.tracker.cleared .stopped with coast := 0, missed := 0, indexSeen := false }
        ports := s.ports.mapPort fun _ ps =>
          if ps.isOpen && ps.mask.state then
            ps.arrive { phase := none, cycle := s.tracker.cycle, payload := .state s.tracker.state .stopped .stop }
          else ps } := by
  simp only [State.stopTracker, State.trackingEnded_eq, State.postState_eq]
  cases s.tracker.state.tracks <;> rfl

end Sys2Proof.Machine
end

