-- ==== Sys2Proof/Laws/Walker.lean ====
section
/-! SUPPORT. The Cam Walker: what the walk order holds, what one entry's firing changes, and the inductions by which a
property passes through a walk, an advance, a posting in any order and a boundary. -/

namespace Sys2Proof.Machine

/-! ### The walk order -/

theorem State.activeEntries_eq (s : State) :
    s.activeEntries = (List.finRange 128).filterMap fun i =>
      match s.slot i with
      | some e => if e.status = .active then some (i, e) else none
      | none => none := by
  rw [State.activeEntries, Bank.indexed_eq, List.filterMap_map]
  rfl

theorem State.mem_activeEntries (s : State) (i : EntryId) (e : Entry) :
    (i, e) ∈ s.activeEntries ↔ s.slot i = some e ∧ e.status = .active := by
  rw [State.activeEntries_eq]
  simp only [List.mem_filterMap, List.mem_finRange, true_and]
  constructor
  · rintro ⟨j, hj⟩
    split at hj
    · split at hj
      · cases hj
        exact ⟨by assumption, by assumption⟩
      · cases hj
    · cases hj
  · rintro ⟨h1, h2⟩
    exact ⟨i, by simp [h1, h2]⟩

theorem State.mem_walkOrder (s : State) (i : EntryId) (e : Entry) :
    (i, e) ∈ s.walkOrder ↔ s.slot i = some e ∧ e.status = .active := by
  rw [State.walkOrder, List.mem_insertionSort, State.mem_activeEntries]

theorem State.mem_firingsAt (s : State) (phase : Nat) (i : EntryId) :
    i ∈ s.firingsAt phase ↔ ∃ e, s.slot i = some e ∧ e.status = .active ∧ e.effective = phase := by
  simp only [State.firingsAt, List.mem_map, List.mem_filter, decide_eq_true_eq, Prod.exists, State.mem_walkOrder]
  constructor
  · rintro ⟨j, e, ⟨⟨h1, h2⟩, h3⟩, rfl⟩
    exact ⟨e, h1, h2, h3⟩
  · rintro ⟨e, h1, h2, h3⟩
    exact ⟨i, e, ⟨⟨h1, h2⟩, h3⟩, rfl⟩

/-! ### Inductions -/

/-- A property that a phase's pulse ends keep, and that each reached entry of that phase keeps, passes through a phase. -/
theorem State.takePhase_ind {P : State → Prop} (s : State) (cycle : Count32) (last phase : Nat)
    (hends : P (s.takePulseEnds cycle phase))
    (hreach : ∀ u i e, s.slot i = some e → e.status = .active → e.effective = phase → P u →
      P (u.reach cycle last i)) : P (s.takePhase cycle last phase) := by
  have hfold : ∀ (ids : List EntryId) (u : State),
      (∀ i ∈ ids, ∃ e, s.slot i = some e ∧ e.status = .active ∧ e.effective = phase) → P u →
      P (ids.foldl (fun st i => st.reach cycle last i) u) := by
    intro ids
    induction ids with
    | nil => exact fun _ _ h => h
    | cons i ids ih =>
      intro u hm hu
      obtain ⟨e, h1, h2, h3⟩ := hm i (List.mem_cons_self ..)
      exact ih _ (fun j hj => hm j (List.mem_cons_of_mem _ hj)) (hreach u i e h1 h2 h3 hu)
  exact hfold _ _ (fun i hi => (State.mem_firingsAt _ _ _).1 hi) hends

/-- What is due next lies in the range asked for. -/
theorem State.nextDue_range (s : State) (cycle : Count32) (lo hi ph : Nat) (h : s.nextDue cycle lo hi = some ph) :
    lo ≤ ph ∧ ph ≤ hi := by
  have := List.min?_mem h
  simp only [List.mem_filter, decide_eq_true_eq] at this
  exact this.2

/-- What the walker looks for is what is due. -/
theorem State.mem_due (s : State) (cycle : Count32) (ph : Nat) :
    ph ∈ s.lines.cells.filterMap (·.endIn cycle) ++ s.activeEntries.map (·.2.effective) ↔ s.DueAt cycle ph := by
  have hend : ∀ l : LineState, l.endIn cycle = some ph ↔ ∃ id seq, l.pulse = .phaseEnd id seq ph cycle := by
    intro l
    unfold LineState.endIn
    cases l.pulse with
    | none => simp
    | timeEnd => simp
    | phaseEnd id seq p c =>
      by_cases hc : c = cycle <;> simp [hc]
  simp only [List.mem_append, List.mem_filterMap, Bank.cells_eq, List.mem_map, List.mem_finRange, true_and,
    exists_exists_eq_and, hend, Prod.exists, State.mem_activeEntries, State.DueAt]
  refine or_congr Iff.rfl ⟨?_, ?_⟩
  · rintro ⟨i, e, ⟨h1, h2⟩, h3⟩
    exact ⟨i, e, h1, h2, h3⟩
  · rintro ⟨i, e, h1, h2, h3⟩
    exact ⟨i, e, ⟨h1, h2⟩, h3⟩

theorem State.nextDue_eq_none (s : State) (cycle : Count32) (lo hi : Nat) :
    s.nextDue cycle lo hi = none ↔ ∀ ph, lo ≤ ph → ph ≤ hi → ¬s.DueAt cycle ph := by
  simp only [State.nextDue, List.min?_eq_none_iff, List.filter_eq_nil_iff, decide_eq_true_eq, State.mem_due]
  exact ⟨fun h ph h1 h2 h3 => h ph h3 ⟨h1, h2⟩, fun h ph h1 h2 => h ph h2.1 h2.2 h1⟩

theorem State.nextDue_eq_some (s : State) (cycle : Count32) (lo hi ph : Nat) :
    s.nextDue cycle lo hi = some ph ↔
      lo ≤ ph ∧ ph ≤ hi ∧ s.DueAt cycle ph ∧ ∀ q, lo ≤ q → q < ph → ¬s.DueAt cycle q := by
  simp only [State.nextDue, List.min?_eq_some_iff, List.mem_filter, decide_eq_true_eq, State.mem_due]
  constructor
  · rintro ⟨⟨h1, h2⟩, h3⟩
    exact ⟨h2.1, h2.2, h1, fun q hq hlt hd => absurd (h3 q ⟨hd, hq, by omega⟩) (by omega)⟩
  · rintro ⟨h1, h2, h3, h4⟩
    exact ⟨⟨h3, h1, h2⟩, fun q hq => by
      by_contra hlt
      exact h4 q hq.2.1 (by omega) hq.1⟩

/-- A property that each phase of the range keeps passes through a walk. -/
theorem State.walk_ind {P : State → Prop} (cycle : Count32) (hi lo₀ : Nat)
    (hphase : ∀ u ph, lo₀ ≤ ph → ph ≤ hi → P u → P (u.takePhase cycle hi ph)) :
    ∀ (fuel lo : Nat) (s : State), lo₀ ≤ lo → P s → P (State.walk cycle hi fuel lo s) := by
  intro fuel
  induction fuel with
  | zero => exact fun _ _ _ h => h
  | succ fuel ih =>
    intro lo s hlo hs
    rw [State.walk]
    split
    · exact hs
    · rename_i ph hph
      have hr := State.nextDue_range _ _ _ _ _ hph
      exact ih _ _ (by omega) (hphase _ _ (by omega) hr.2 hs)

/-- A property that each phase of the range and the new walk position keep passes through an advance. -/
theorem State.advanceWalk_ind {P : State → Prop} (s : State) (cycle : Count32) (hi : Nat) (hs : P s)
    (hphase : ∀ u lo ph, s.walkPos.next = some lo → lo ≤ ph → ph ≤ hi → P u → P (u.takePhase cycle hi ph))
    (hpos : ∀ u, P u → P (u.setWalkPos (.reached hi))) : P (s.advanceWalk cycle hi) := by
  unfold State.advanceWalk
  split
  · exact hs
  · rename_i lo hlo
    exact hpos _ (State.walk_ind cycle hi lo (fun u ph h1 h2 => hphase u lo ph hlo h1 h2) _ _ _ (le_refl _) hs)

/-- An advance from a walk position leaves the walk position at its end. -/
theorem State.advanceWalk_walkPos (s : State) (cycle : Count32) (hi lo : Nat) (h : s.walkPos.next = some lo) :
    (s.advanceWalk cycle hi).walkPos = .reached hi := by
  simp [State.advanceWalk, h]

/-- With no walk position there is no advance. -/
theorem State.advanceWalk_none (s : State) (cycle : Count32) (hi : Nat) (h : s.walkPos = .none) :
    s.advanceWalk cycle hi = s := by
  simp [State.advanceWalk, h, WalkPos.next]

/-! ### Any order -/

theorem insertAt_perm {α : Type} (k : Nat) (a : α) (l : List α) : (insertAt k a l).Perm (a :: l) := by
  unfold insertAt
  exact List.perm_middle.trans (by rw [List.take_append_drop])

/-- The order that the free values choose is an order of the same list. -/
theorem anyOrder_perm {α : Type} : ∀ (l : List α) (n : Nat), (anyOrder n l).Perm l
  | [], _ => .refl _
  | [_], _ => .refl _
  | a :: b :: l, n => (insertAt_perm _ _ _).trans ((anyOrder_perm (b :: l) (n + 1)).cons a)

/-! ### Posting to one port -/

@[simp] theorem PortState.arrive_session (ps : PortState) (r : Record) : (ps.arrive r).session = ps.session := rfl
@[simp] theorem PortState.arrive_slot (ps : PortState) (r : Record) : (ps.arrive r).slot = ps.slot := rfl
@[simp] theorem PortState.arrive_reply (ps : PortState) (r : Record) : (ps.arrive r).reply = ps.reply := rfl
@[simp] theorem PortState.arrive_quota (ps : PortState) (r : Record) : (ps.arrive r).quota = ps.quota := rfl
@[simp] theorem PortState.arrive_epoch (ps : PortState) (r : Record) : (ps.arrive r).epoch = ps.epoch := rfl
@[simp] theorem PortState.arrive_mask (ps : PortState) (r : Record) : (ps.arrive r).mask = ps.mask := rfl
@[simp] theorem PortState.arrive_interval (ps : PortState) (r : Record) : (ps.arrive r).interval = ps.interval := rfl
@[simp] theorem PortState.arrive_transaction (ps : PortState) (r : Record) :
    (ps.arrive r).transaction = ps.transaction := rfl
@[simp] theorem PortState.arrive_isOpen (ps : PortState) (r : Record) : (ps.arrive r).isOpen = ps.isOpen := rfl
@[simp] theorem PortState.arrive_isClosed (ps : PortState) (r : Record) : (ps.arrive r).isClosed = ps.isClosed := rfl

/-- Records posted in some order to the owner they name: each arrives there unless the session is CLOSED, and nothing
else but the draws changes. -/
theorem State.postUnordered_eq (s : State) (p : Port) (rs : List Record) :
    s.postUnordered p rs =
      { s with
        draws := s.draws + rs.length
        ports := s.ports.mapPort fun q ps =>
          if q = p ∧ ps.isClosed = false then (anyOrder s.draws rs).foldl PortState.arrive ps else ps } := by
  have key : ∀ (l : List Record) (u : State),
      l.foldl (fun st r => st.post (toOwner p) r) u =
        u.setPorts (u.ports.mapPort fun q ps => if q = p ∧ ps.isClosed = false then l.foldl PortState.arrive ps else ps) := by
    intro l
    induction l with
    | nil =>
      intro u
      apply State.ext_fields <;> try rfl
      intro q
      simp [State.port]
    | cons r l ih =>
      intro u
      rw [List.foldl_cons, ih]
      apply State.ext_fields <;> try rfl
      intro q
      simp only [State.setPorts_port, PerPort.get_mapPort, List.foldl_cons, State.ports_get, State.post_port, toOwner,
        Bool.and_eq_true, decide_eq_true_eq, Bool.not_eq_true']
      by_cases hq : q = p
      · by_cases hc : (u.port q).isClosed = false <;> simp [hq, hq ▸ hc]
      · simp [hq]
  simp only [State.postUnordered, key]
  rfl

/-! ### What one entry can change -/

/-- The parts of the state that the walker never changes: all but the entries, the last-fired records, the lines, the
queues and the engine with its draws. -/
structure State.SameOutsideWalk (s u : State) : Prop where
  now : u.now = s.now
  pending : u.pending = s.pending
  markChannel : u.markChannel = s.markChannel
  indexChannel : u.indexChannel = s.indexChannel
  hold : u.hold = s.hold
  tracker : u.tracker = s.tracker
  nextSeq : u.nextSeq = s.nextSeq
  grant : u.grant = s.grant

theorem State.SameOutsideWalk.refl (s : State) : s.SameOutsideWalk s := ⟨rfl, rfl, rfl, rfl, rfl, rfl, rfl, rfl⟩

theorem State.SameOutsideWalk.trans {s u v : State} (h : s.SameOutsideWalk u) (h' : u.SameOutsideWalk v) :
    s.SameOutsideWalk v :=
  ⟨h'.now.trans h.now, h'.pending.trans h.pending, h'.markChannel.trans h.markChannel,
    h'.indexChannel.trans h.indexChannel, h'.hold.trans h.hold, h'.tracker.trans h.tracker, h'.nextSeq.trans h.nextSeq,
    h'.grant.trans h.grant⟩

/-- A firing in its four parts. -/
theorem State.fireEntry_parts {P : State → Prop} (s : State) (i : EntryId) (e : Entry) (cycle : Count32) (phase : Nat)
    (hline : P ((s.setLastFired (s.lastFired.set i (some cycle))).setLine e.fields.line
      (e.actOn i cycle s.now (s.line e.fields.line))))
    (hpost : ∀ u, P u → P (u.post (toOwner e.owner) (e.firedRecord i cycle phase)))
    (hspent : ∀ u, e.fields.filter = .once → P u →
      P ((u.setSlot i (some { e with status := .spent })).postInternalJob (.spentRemoval i e.seq))) :
    P (s.fireEntry i e cycle phase) := by
  unfold State.fireEntry
  by_cases ho : e.fields.filter = .once
  · simp only [ho, or_true, if_true]
    exact hspent _ ho (hpost _ hline)
  · simp only [ho, or_false, if_false]
    split
    · exact hpost _ hline
    · exact hline

/-- A reached entry changes nothing, or fires in its four parts. -/
theorem State.reach_parts {P : State → Prop} (s : State) (cycle : Count32) (phase : Nat) (i : EntryId) (hs : P s)
    (hfire : ∀ e, s.slot i = some e → e.status = .active → (s.line e.fields.line).mode = .run →
      P (s.fireEntry i e cycle phase)) : P (s.reach cycle phase i) := by
  unfold State.reach
  split
  · rename_i e he
    split
    · rename_i hf
      simp only [State.fires, Bool.and_eq_true, decide_eq_true_eq] at hf
      exact hfire e he hf.1.1.1 hf.1.1.2
    · exact hs
  · exact hs

theorem State.post_same (s : State) (dest : Port → PortState → Bool) (r : Record) : s.SameOutsideWalk (s.post dest r) :=
  ⟨rfl, rfl, rfl, rfl, rfl, rfl, rfl, rfl⟩

theorem State.postInternalJob_same (s : State) (j : InternalJob) : s.SameOutsideWalk (s.postInternalJob j) :=
  ⟨rfl, rfl, rfl, rfl, rfl, rfl, rfl, rfl⟩

theorem State.setSlot_same (s : State) (i : EntryId) (x : Option Entry) : s.SameOutsideWalk (s.setSlot i x) :=
  ⟨rfl, rfl, rfl, rfl, rfl, rfl, rfl, rfl⟩

theorem State.setLine_same (s : State) (l : Line) (x : LineState) : s.SameOutsideWalk (s.setLine l x) :=
  ⟨rfl, rfl, rfl, rfl, rfl, rfl, rfl, rfl⟩

theorem State.setLines_same (s : State) (x : Bank LineState 16) : s.SameOutsideWalk (s.setLines x) :=
  ⟨rfl, rfl, rfl, rfl, rfl, rfl, rfl, rfl⟩

theorem State.setLastFired_same (s : State) (x : Bank (Option Count32) 128) : s.SameOutsideWalk (s.setLastFired x) :=
  ⟨rfl, rfl, rfl, rfl, rfl, rfl, rfl, rfl⟩

theorem State.setWalkPos_same (s : State) (x : WalkPos) : s.SameOutsideWalk (s.setWalkPos x) :=
  ⟨rfl, rfl, rfl, rfl, rfl, rfl, rfl, rfl⟩

theorem State.reach_same (s : State) (cycle : Count32) (phase : Nat) (i : EntryId) :
    s.SameOutsideWalk (s.reach cycle phase i) :=
  State.reach_parts (P := s.SameOutsideWalk) s cycle phase i (.refl _) fun e _ _ _ =>
    State.fireEntry_parts (P := s.SameOutsideWalk) s i e cycle phase
      ((State.setLastFired_same _ _).trans (State.setLine_same _ _ _)) (fun _ hu => hu.trans (State.post_same _ _ _))
      fun _ _ hu => (hu.trans (State.setSlot_same _ _ _)).trans (State.postInternalJob_same _ _)

theorem State.advanceWalk_same (s : State) (cycle : Count32) (hi : Nat) : s.SameOutsideWalk (s.advanceWalk cycle hi) :=
  State.advanceWalk_ind (P := s.SameOutsideWalk) s cycle hi (.refl _)
    (fun u _ ph _ _ _ hu => State.takePhase_ind (P := s.SameOutsideWalk) u cycle hi ph
      (hu.trans (State.setLines_same _ _)) fun v i _ _ _ _ hv => hv.trans (State.reach_same v cycle hi i))
    fun _ hu => hu.trans (State.setWalkPos_same _ _)

/-- A reached entry leaves every slot as it was, or makes its own SPENT. -/
theorem State.reach_slot (s : State) (cycle : Count32) (phase : Nat) (i j : EntryId) :
    (s.reach cycle phase i).slot j = s.slot j ∨
      ∃ e, j = i ∧ s.slot i = some e ∧ e.status = .active ∧ e.fields.filter = .once ∧
        (s.reach cycle phase i).slot j = some { e with status := .spent } := by
  refine State.reach_parts s cycle phase i
    (P := fun u => u.slot j = s.slot j ∨ ∃ e, j = i ∧ s.slot i = some e ∧ e.status = .active ∧
      e.fields.filter = .once ∧ u.slot j = some { e with status := .spent }) (.inl rfl) fun e he ha _ => ?_
  refine State.fireEntry_parts (P := fun u => u.slot j = s.slot j ∨ ∃ e, j = i ∧ s.slot i = some e ∧
    e.status = .active ∧ e.fields.filter = .once ∧ u.slot j = some { e with status := .spent }) s i e cycle phase
    (.inl rfl) (fun u hu => hu) fun u ho hu => ?_
  have hslot : ((u.setSlot i (some { e with status := .spent })).postInternalJob (.spentRemoval i e.seq)).slot j =
      (u.setSlot i (some { e with status := .spent })).slot j := rfl
  by_cases hj : j = i
  · refine .inr ⟨e, hj, he, ha, ho, ?_⟩
    rw [hslot, hj, State.setSlot_slot_self]
  · rw [hslot, State.setSlot_slot_ne _ _ hj]
    exact hu

/-- A reached entry leaves every other slot's last-fired record. -/
theorem State.reach_lastFired (s : State) (cycle : Count32) (phase : Nat) (i j : EntryId) (h : j ≠ i) :
    (s.reach cycle phase i).lastFired.get j = s.lastFired.get j :=
  State.reach_parts s cycle phase i (P := fun u => u.lastFired.get j = s.lastFired.get j) rfl fun e _ _ _ =>
    State.fireEntry_parts s i e cycle phase (P := fun u => u.lastFired.get j = s.lastFired.get j)
      (Bank.get_set_ne _ _ h) (fun _ hu => hu) fun _ _ hu => hu

/-- A reached entry leaves every line, or acts on its own line in RUN. -/
theorem State.reach_line (s : State) (cycle : Count32) (phase : Nat) (i : EntryId) (l : Line) :
    (s.reach cycle phase i).line l = s.line l ∨
      ∃ e, s.slot i = some e ∧ e.fields.line = l ∧ (s.line l).mode = .run ∧
        (s.reach cycle phase i).line l = e.actOn i cycle s.now (s.line l) := by
  refine State.reach_parts s cycle phase i
    (P := fun u => u.line l = s.line l ∨ ∃ e, s.slot i = some e ∧ e.fields.line = l ∧ (s.line l).mode = .run ∧
      u.line l = e.actOn i cycle s.now (s.line l)) (.inl rfl) fun e he _ hm => ?_
  refine State.fireEntry_parts s i e cycle phase
    (P := fun u => u.line l = s.line l ∨ ∃ e, s.slot i = some e ∧ e.fields.line = l ∧ (s.line l).mode = .run ∧
      u.line l = e.actOn i cycle s.now (s.line l)) ?_ (fun _ hu => hu) fun _ _ hu => hu
  by_cases hl : e.fields.line = l
  · refine .inr ⟨e, he, hl, hl ▸ hm, ?_⟩
    rw [hl]
    exact State.setLine_line_self _ _ _
  · exact .inl (State.setLine_line_ne _ _ (Ne.symm hl))

/-- A reached entry does nothing to a port but let records arrive. -/
theorem State.reach_port (s : State) (cycle : Count32) (phase : Nat) (i : EntryId) (p : Port) :
    ∃ rs : List Record, (s.reach cycle phase i).port p = rs.foldl PortState.arrive (s.port p) := by
  refine State.reach_parts s cycle phase i
    (P := fun u => ∃ rs : List Record, u.port p = rs.foldl PortState.arrive (s.port p)) ⟨[], rfl⟩ fun e _ _ _ => ?_
  refine State.fireEntry_parts s i e cycle phase
    (P := fun u => ∃ rs : List Record, u.port p = rs.foldl PortState.arrive (s.port p)) ⟨[], rfl⟩ ?_
    fun _ _ hu => hu
  rintro u ⟨rs, hu⟩
  rw [State.post_port]
  split
  · exact ⟨rs ++ [_], by rw [List.foldl_append, hu]; rfl⟩
  · exact ⟨rs, hu⟩

/-- An advance does nothing to a port but let records arrive. -/
theorem State.advanceWalk_port (s : State) (cycle : Count32) (hi : Nat) (p : Port) :
    ∃ rs : List Record, (s.advanceWalk cycle hi).port p = rs.foldl PortState.arrive (s.port p) :=
  State.advanceWalk_ind s cycle hi (P := fun u => ∃ rs : List Record, u.port p = rs.foldl PortState.arrive (s.port p))
    ⟨[], rfl⟩
    (fun u _ ph _ _ _ hu => State.takePhase_ind u cycle hi ph
      (P := fun u => ∃ rs : List Record, u.port p = rs.foldl PortState.arrive (s.port p)) hu
      fun v i _ _ _ _ ⟨rs, hv⟩ => by
        obtain ⟨rs', h'⟩ := State.reach_port v cycle hi i p
        exact ⟨rs ++ rs', by rw [h', hv, List.foldl_append]⟩)
    fun _ hu => hu

end Sys2Proof.Machine
end

