-- ==== Sys2Proof/Laws/Arrivals.lean ====
section
/-! SUPPORT. The tracker's events, the walker and the hand-overs do nothing to a port but let records arrive at it: one
relation, kept by every operation they are made of, and what arrivals keep of a port. -/

namespace Sys2Proof.Machine

/-- The ports of `u` are those of `s` with nothing but records arrived. -/
structure State.OnlyArrivals (s u : State) : Prop where
  out : ∀ p, ∃ rs : List Record, u.port p = rs.foldl PortState.arrive (s.port p)

theorem State.OnlyArrivals.refl (s : State) : s.OnlyArrivals s := ⟨fun _ => ⟨[], rfl⟩⟩

theorem State.OnlyArrivals.of_port_eq {s u : State} (h : ∀ p, u.port p = s.port p) : s.OnlyArrivals u :=
  ⟨fun p => ⟨[], h p⟩⟩

theorem State.OnlyArrivals.trans {s u v : State} (h : s.OnlyArrivals u) (h' : u.OnlyArrivals v) : s.OnlyArrivals v :=
  ⟨fun p => by
    obtain ⟨a, ha⟩ := h.out p
    obtain ⟨b, hb⟩ := h'.out p
    exact ⟨a ++ b, by rw [hb, ha, List.foldl_append]⟩⟩

theorem State.OnlyArrivals.of_post (s : State) (d r) : s.OnlyArrivals (s.post d r) := ⟨fun p => by
  rw [State.post_port]; split
  · exact ⟨[r], rfl⟩
  · exact ⟨[], rfl⟩⟩

theorem State.OnlyArrivals.of_postUnordered (s : State) (p rs) : s.OnlyArrivals (s.postUnordered p rs) := by
  rw [State.postUnordered_eq]
  constructor
  intro q
  change ∃ l : List Record, (s.ports.mapPort _).get q = _
  rw [PerPort.get_mapPort]
  split
  · exact ⟨_, rfl⟩
  · exact ⟨[], rfl⟩

theorem State.OnlyArrivals.foldl {α : Type} (f : State → α → State) (h : ∀ (s : State) (a : α), s.OnlyArrivals (f s a)) :
    ∀ (l : List α) (s : State), s.OnlyArrivals (l.foldl f s)
  | [], s => .refl s
  | a :: l, s => (h s a).trans (State.OnlyArrivals.foldl f h l _)

/-! What keeps the relation: an operation on the later state. -/

variable {s u : State}

theorem State.OnlyArrivals.then_post (h : s.OnlyArrivals u) {d r} : s.OnlyArrivals (u.post d r) :=
  h.trans (State.OnlyArrivals.of_post _ _ _)

theorem State.OnlyArrivals.then_postState (h : s.OnlyArrivals u) {a b c d e} :
    s.OnlyArrivals (u.postState a b c d e) :=
  h.trans (State.OnlyArrivals.of_post _ _ _)

theorem State.OnlyArrivals.then_advanceWalk (h : s.OnlyArrivals u) {a b} : s.OnlyArrivals (u.advanceWalk a b) :=
  h.trans ⟨State.advanceWalk_port _ _ _⟩

theorem State.OnlyArrivals.then_setTracker (h : s.OnlyArrivals u) {x} : s.OnlyArrivals (u.setTracker x) := ⟨h.out⟩

theorem State.OnlyArrivals.then_setWalkPos (h : s.OnlyArrivals u) {x} : s.OnlyArrivals (u.setWalkPos x) := ⟨h.out⟩

theorem State.OnlyArrivals.then_setSlots (h : s.OnlyArrivals u) {x} : s.OnlyArrivals (u.setSlots x) := ⟨h.out⟩

theorem State.OnlyArrivals.then_setLines (h : s.OnlyArrivals u) {x} : s.OnlyArrivals (u.setLines x) := ⟨h.out⟩

theorem State.OnlyArrivals.then_setLine (h : s.OnlyArrivals u) {x y} : s.OnlyArrivals (u.setLine x y) := ⟨h.out⟩

theorem State.OnlyArrivals.then_trackingEnded (h : s.OnlyArrivals u) : s.OnlyArrivals (u.trackingEnded) := ⟨h.out⟩

theorem State.OnlyArrivals.then_cutPulses (h : s.OnlyArrivals u) {x} : s.OnlyArrivals (u.cutPulses x) := ⟨h.out⟩

theorem State.OnlyArrivals.then_setHold (h : s.OnlyArrivals u) {x} : s.OnlyArrivals (u.setHold x) := ⟨h.out⟩

theorem State.OnlyArrivals.then_takeBoundary (h : s.OnlyArrivals u) {a b c d} :
    s.OnlyArrivals (u.takeBoundary a b c d) :=
  by
  refine h.trans ?_
  unfold State.takeBoundary
  refine State.OnlyArrivals.trans ?_ (State.OnlyArrivals.foldl _ (fun s p => State.OnlyArrivals.of_postUnordered s p _) _ _)
  apply State.OnlyArrivals.of_port_eq; intro p; split <;> rfl

theorem State.OnlyArrivals.then_postChange (h : s.OnlyArrivals u) {a b c} : s.OnlyArrivals (u.postChange a b c) := by
  unfold State.postChange; split
  · exact h
  · exact h.then_postState

theorem State.OnlyArrivals.then_loseTracking (h : s.OnlyArrivals u) {c} : s.OnlyArrivals (u.loseTracking c) := by
  unfold State.loseTracking
  exact h.then_setTracker.then_trackingEnded.then_postState

theorem State.OnlyArrivals.then_stepPosition (h : s.OnlyArrivals u) {a b c d} :
    s.OnlyArrivals (u.stepPosition a b c d) :=
  by
  unfold State.stepPosition
  apply State.OnlyArrivals.then_advanceWalk
  split
  · exact h.then_setTracker.then_postChange.then_post
  · exact h.then_setTracker.then_postChange

theorem State.OnlyArrivals.ite {c : Prop} [Decidable c] {u v : State} (h : s.OnlyArrivals u) (h' : s.OnlyArrivals v) :
    s.OnlyArrivals (if c then u else v) :=
  by split <;> assumption

theorem State.OnlyArrivals.then_stepBoundary (h : s.OnlyArrivals u) {a b c d e} :
    s.OnlyArrivals (u.stepBoundary a b c d e) :=
  by
  unfold State.stepBoundary
  apply State.OnlyArrivals.then_advanceWalk
  have h1 : ∀ v : State, s.OnlyArrivals v → s.OnlyArrivals
      (if d then v.post (toOpen fun ps => ps.mask.indexMissed) (v.recordNow (.indexMissed c)) else v) :=
    fun v hv => State.OnlyArrivals.ite hv.then_post hv
  split
  · exact (h1 _ h.then_setTracker.then_postChange).then_advanceWalk.then_takeBoundary
  · exact (h1 _ h.then_setTracker.then_postChange).then_cutPulses.then_takeBoundary

theorem State.OnlyArrivals.then_stepMark (h : s.OnlyArrivals u) {a b} : s.OnlyArrivals (u.stepMark a b) := by
  unfold State.stepMark
  split
  · exact h.then_stepPosition
  · exact h.then_stepPosition
  · exact h.then_stepBoundary
  · exact h.then_stepBoundary
  · unfold State.stepLost
    exact h.then_setTracker.then_post.then_loseTracking

theorem State.OnlyArrivals.then_acquireMark (h : s.OnlyArrivals u) {n} : s.OnlyArrivals (u.acquireMark n) := by
  unfold State.acquireMark
  apply State.OnlyArrivals.ite
  · unfold State.lock
    exact h.then_setTracker.then_setTracker.then_setWalkPos.then_postState
  · exact h.then_setTracker

theorem State.OnlyArrivals.then_judgeMark (h : s.OnlyArrivals u) {n} : s.OnlyArrivals (u.judgeMark n) := by
  unfold State.judgeMark
  exact State.OnlyArrivals.ite h.then_post h.then_setTracker.then_stepMark

theorem State.OnlyArrivals.then_takeMark (h : s.OnlyArrivals u) {n} : s.OnlyArrivals (u.takeMark n) := by
  unfold State.takeMark
  split
  · exact h
  · exact h.then_acquireMark
  · exact h.then_judgeMark
  · exact h.then_judgeMark
  · unfold State.reacquireMark
    exact State.OnlyArrivals.ite h.then_setTracker.then_postState.then_acquireMark h

theorem State.OnlyArrivals.then_substituteMark (h : s.OnlyArrivals u) : s.OnlyArrivals u.substituteMark := by
  unfold State.substituteMark
  exact State.OnlyArrivals.ite h.then_setTracker.then_stepMark h.then_setTracker.then_stepMark.then_post

theorem State.OnlyArrivals.then_handOver (h : s.OnlyArrivals u) {l} : s.OnlyArrivals (u.handOver l) := by
  unfold State.handOver
  split
  · exact h.then_post.then_setLine
  · exact h.then_setLine

/-! What arrivals keep of a port. -/

theorem PortState.arrivals_keep (rs : List Record) : ∀ ps : PortState, let ps' := rs.foldl PortState.arrive ps
    ps'.session = ps.session ∧ ps'.slot = ps.slot ∧ ps'.reply = ps.reply ∧ ps'.isOpen = ps.isOpen ∧
      ps'.isClosed = ps.isClosed := by
  induction rs with
  | nil => intro ps; exact ⟨rfl, rfl, rfl, rfl, rfl⟩
  | cons r rs ih => intro ps; exact ih (ps.arrive r)

theorem State.OnlyArrivals.keeps {s u : State} (h : s.OnlyArrivals u) (p : Port) :
    (u.port p).session = (s.port p).session ∧ (u.port p).slot = (s.port p).slot ∧ (u.port p).reply = (s.port p).reply ∧
    (u.port p).isOpen = (s.port p).isOpen ∧ (u.port p).isClosed = (s.port p).isClosed := by
  obtain ⟨rs, h⟩ := h.out p
  rw [h]; exact PortState.arrivals_keep rs _

end Sys2Proof.Machine
end

