-- ==== Sys2Proof/Laws/Conditioner.lean ====
section
/-! SUPPORT. The sampled inputs: what a channel's and the HOLD input's sample of a tick can do, in the terms of the
statements. -/

namespace Sys2Proof.Machine

theorem edgeTo_flipLevel (l : Level) : edgeTo (flipLevel l) = l.leaving := by cases l <;> rfl

theorem TrackerConfig.filterLength_eq (c : TrackerConfig) (ch : Channel) : c.filterLength ch = c.filterOf ch := by
  cases ch <;> rfl

theorem TrackerConfig.delivers_eq_true (c : TrackerConfig) (ch : Channel) (e : Edge) :
    c.delivers ch e = true ↔ c.Selects ch e := by
  cases ch <;> simp only [TrackerConfig.delivers, TrackerConfig.Selects, Bool.and_eq_true, decide_eq_true_eq,
    eq_comm (a := e)]

theorem ChannelState.canBegin_eq_true (c : ChannelState) (sample : Level) (now : Nat) :
    c.canBegin sample now = true ↔
      ∃ l, c.filtered = .level l ∧ c.sampled ≠ some now ∧ c.hold = none ∧ sample ≠ l := by
  unfold ChannelState.canBegin
  cases c.filtered <;> simp

/-- A sample already taken, or one that shows no change, leaves the HOLD input as it is. -/
theorem HoldInput.sample_same (h : HoldInput) (level : Level) (now : Nat)
    (hs : h.sampled = some now ∨ h.awaiting = none ∧ h.pin = level) : h.sample level now = (h, none) := by
  simp only [HoldInput.sample, if_pos hs]

/-- The first sample after a reset sets the HOLD input and shows no change. -/
theorem HoldInput.sample_first (h : HoldInput) (level : Level) (now : Nat) (hs : h.sampled ≠ some now)
    (ha : h.awaiting ≠ none) :
    h.sample level now = ({ pin := level, awaiting := none, sampled := some now }, none) := by
  simp [HoldInput.sample, hs, ha]

/-- A sample of the other level shows a change. -/
theorem HoldInput.sample_change (h : HoldInput) (level : Level) (now : Nat) (hs : h.sampled ≠ some now)
    (ha : h.awaiting = none) (hp : h.pin ≠ level) :
    h.sample level now = ({ pin := level, awaiting := none, sampled := some now }, some level) := by
  simp [HoldInput.sample, hs, ha, hp]

/-- A channel that delivers an edge completes its hold and hands the edge on. -/
theorem State.recognise_of_delivered (s : State) (ch : Channel) (n : Nat) (h : s.delivered ch = some n) :
    s.recognise ch = (s.completeHold ch).takeEdge ch n := by
  simp [State.recognise, h]

/-- A channel that delivers none only completes its hold. -/
theorem State.recognise_of_not_delivered (s : State) (ch : Channel) (h : s.delivered ch = none) :
    s.recognise ch = s.completeHold ch := by
  simp [State.recognise, h]

end Sys2Proof.Machine
end

