-- ==== Sys2Proof/Tests/Slice0.lean ====
section
/-! SUPPORT. The model's own tests. Each test's docstring names the place of the manual its expected values come from;
the CRC bytes that the manual does not print were computed by hand from R159. The last part gives, for each statement
with hypotheses, operands and a state that meet them. -/

open Sys2Proof Sys2Proof.Machine

namespace Sys2Proof.Tests

-- The tests are checked one after another: checked side by side, they wait for one another in threads of their own.
set_option Elab.async false

/-! ### Small states -/

/-- The next state of a command. -/
def after (i : Instr) (s : State) : State :=
  match exec i s with
  | .next u => u
  | .fault _ => s
  | .refused _ => s

/-- A port whose session is OPEN with a silence limit of 10 ms, its timer started at tick 0. -/
def openPort : PortState := { PortState.atReset with session := .opened 10 0, epoch := 1 }

/-- Ports A and B OPEN, HOLD sampled high, both inputs sampled low, the grant with A. -/
def opened : State :=
  { State.reset with
    markChannel := { pin := .low, filtered := .level .low, hold := none, sampled := none }
    indexChannel := { pin := .low, filtered := .level .low, hold := none, sampled := none }
    hold := { pin := .high, awaiting := none, sampled := none }
    ports := { a := openPort, b := openPort, c := PortState.atReset, d := PortState.atReset }
    grant := some .A }

/-- The tracker of Table 2-4 at tick 0, in cycle 50 as in Table 4-4. -/
def lockedTracker : Tracker :=
  { state := .locked, config := { TrackerConfig.default with indexUse := false }, ring := [1000, 1000, 1000, 1000],
    estimate := 1000, reference := some { time := 0, kind := .genuine }, markPos := some 5, coast := 0,
    indexSeen := false, indexPending := false, missed := 0, cycle := 50, phase := some 1280 }

/-- Tracking, as Table 2-4 begins. -/
def tracking : State := { opened with tracker := lockedTracker, walkPos := .reached 1280 }

/-- Tracking at a tick with this phase reached and a hold of the MARK input begun at tick `n`. -/
def marked (now phase n : Nat) : State :=
  { tracking with
    now := now
    tracker := { lockedTracker with phase := some phase }
    walkPos := .reached phase
    markChannel := { pin := .high, filtered := .level .low, hold := some n, sampled := none } }

/-- An ACTIVE entry of port A with notify, its effective phase at its trigger phase. -/
def entryOf (line : Line) (trigger : Nat) (action : Action) : Entry :=
  { owner := .A
    fields := { line := line, trigger := trigger, action := action, lead := 0, filter := .every, notify := true,
                label := 7 }
    status := .active
    seq := 200
    effective := trigger
    clamped := false }

/-- A line of port A in a mode, INACTIVE with no pulse. -/
def lineOf (m : LineMode) : LineState :=
  { owner := some .A, mode := m, polarity := .activeHigh, safeLevel := .low, active := false, pulse := .none,
    waiting := [] }

/-- One entry in slot 20, on line 3 in RUN. -/
def withEntry (e : Entry) (s : State) : State :=
  { s with slots := s.slots.set 20 (some e), lines := s.lines.set 3 (lineOf .run) }

/-- A job in service since tick 0. -/
def serving (j : Job) (s : State) : State :=
  { s with engine := { s.engine with service := some { job := j, takenAt := 0, draw := 0 } } }

/-- Port A's slot holding a long request with tag 6. -/
def working (r : LongRequest) (s : State) : State :=
  { s with ports := { s.ports with a := { openPort with slot := .working r 6, reply := .pending 6 1 } } }

/-- What port A's register shows: tag, status code and body. -/
def shown (s : State) : Option (Tag × Byte × List Byte) :=
  match (s.port .A).reply with
  | .done tag status body _ => some (tag, status.code, body)
  | _ => none

/-! ### Ill-formed commands are refused (WellFormed) -/

theorem test_wf_frameError_too_long : (Instr.frameError 0 .A (List.replicate 65 1)).wf = false := by decide +kernel
theorem test_wf_frameError_valid : (Instr.frameError 0 .A (List.replicate 64 0)).wf = false := by decide +kernel
theorem test_wf_unknown_is_known : (Instr.unknownRequestCode 0 .A 0 0 0x23 []).wf = false := by decide +kernel
theorem test_wf_unknown_long : (Instr.unknownRequestCode 0 .A 0 0 0x50 (List.replicate 60 0)).wf = false := by decide +kernel

/-- A body that no frame can hold is refused for each of the twenty-four requests. -/
theorem test_wf_bodies :
    ([Instr.openSession, .closeSession, .readSession, .requestGrant, .releaseGrant, .setQuota, .setTracker,
      .startTracker, .stopTracker, .readTracker, .readHistory, .claimLine, .releaseLine, .setLineMode, .readLines,
      .insertEntry, .deleteEntry, .clearLineEntries, .readEntry, .listEntries, .readEvents, .setEventMask,
      .setAttention, .ackAttention].all fun c =>
        (c 0 .A 0 0 (List.replicate 59 0)).wf && !(c 0 .A 0 0 (List.replicate 60 0)).wf) = true := by decide +kernel

/-! ### Frames written out from Tables 9-1 to 9-5 -/

/-- R159's example: the register after each covered byte is 0x0E, 0x53 and 0xBE. -/
theorem test_crc_example : [crc8 [0x02], crc8 [0x02, 0x13], crc8 [0x02, 0x13, 0x00]] = [0x0E, 0x53, 0xBE] := by decide +kernel

/-- 9.1: READ_TRACKER with tag 2. -/
theorem test_decode_readTracker :
    decodeTransaction 9 .C ([0x02, 0x13, 0x00, 0xBE] ++ List.replicate 60 0) = .readTracker 9 .C 2 0 [] := by decide +kernel

/-- 7.5: sixty-four zero bytes are a NOP. -/
theorem test_decode_zeros : decodeTransaction 9 .D (List.replicate 64 0) = .nop 9 .D := by decide +kernel

/-- OPEN_SESSION, tag 1, 1000 ms. -/
theorem test_decode_openSession :
    decodeTransaction 9 .A ([0x01, 0x01, 0x02, 0xE8, 0x03, 0x40] ++ List.replicate 58 0) =
      .openSession 9 .A 1 0 [0xE8, 0x03] := by decide +kernel

/-- CLAIM_LINE of L5, ACTIVE_LOW, safe level LOW, wait. -/
theorem test_decode_claimLine :
    decodeTransaction 9 .B ([0x03, 0x20, 0x04, 0x05, 0x01, 0x00, 0x01, 0xF0] ++ List.replicate 56 0) =
      .claimLine 9 .B 3 0 [0x05, 0x01, 0x00, 0x01] := by decide +kernel

/-- DELETE_ENTRY of id 127. -/
theorem test_decode_deleteEntry :
    decodeTransaction 9 .B ([0x05, 0x31, 0x01, 0x7F, 0xAB] ++ List.replicate 59 0) =
      .deleteEntry 9 .B 5 0 [0x7F] := by decide +kernel

/-- READ_EVENTS with tag 15, and a CLOSE_SESSION with reserved bit 4 set. -/
theorem test_decode_events_and_reserved :
    decodeTransaction 9 .B ([0x0F, 0x40, 0x01, 0x04, 0x5D] ++ List.replicate 59 0) = .readEvents 9 .B 15 0 [0x04] ∧
    decodeTransaction 9 .B ([0x14, 0x02, 0x00, 0x23] ++ List.replicate 60 0) = .closeSession 9 .B 4 1 [] := by decide +kernel

/-- Code 0x50 is none of Table 9-3; one bit wrong in the CRC, or 63 bytes, is a frame error. -/
theorem test_decode_unknown_and_errors :
    decodeTransaction 9 .B ([0x04, 0x50, 0x00, 0xA7] ++ List.replicate 60 0) = .unknownRequestCode 9 .B 4 0 0x50 [] ∧
    decodeTransaction 9 .B ([0x04, 0x50, 0x00, 0xA6] ++ List.replicate 60 0) =
      .frameError 9 .B ([0x04, 0x50, 0x00, 0xA6] ++ List.replicate 60 0) ∧
    decodeTransaction 9 .B (List.replicate 63 0) = .frameError 9 .B (List.replicate 63 0) := by decide +kernel

/-- 9.2: the default configuration record. -/
theorem test_default_record : TrackerConfig.default.bytes = [16, 4, 4, 4, 3, 0, 0, 1, 0, 2, 0, 2] := by decide +kernel

/-- No row of the table gives bits. -/
theorem test_no_table_word : decodeTableWord 8 1 = none := by decide +kernel

/-! ### Links and sessions -/

/-- R142: a select asserted through a RESET is ignored. -/
theorem test_reset_select :
    (after (.reset 5 .high .low .low)
      (opened.setPort .A { openPort with transaction := .inProgress [] })).port .A =
        { PortState.atReset with transaction := .ignored } := by decide +kernel

/-- R128, R129: 0x81 goes out most significant bit first, zero bytes past the 64th, and nothing while select is released;
bits come in most significant first, and an incomplete byte is ignored. -/
theorem test_serial :
    (let ps := { openPort with transaction := .inProgress (0x81 :: List.replicate 63 0xFF) }
     ((List.range 9).map ps.dataOut, ps.dataOut 511, ps.dataOut 512, openPort.dataOut 0)) =
      ([.high, .low, .low, .low, .low, .low, .low, .high, .high], .high, .low, .float) ∧
    bytesOfBits [true, false, false, false, false, false, true, false, true, true] = [0x82] := by decide +kernel

/-- R142: until the first request every transaction shifts out EMPTY, tag 0, epoch 0, no causes, no body. -/
theorem test_transactionStart_after_reset :
    ((after (.transactionStart 1 .A) State.reset).port .A).transaction =
      .inProgress (List.replicate 64 0) := by decide +kernel

/-- R131: no complete byte gives tag 0. -/
theorem test_frameError : shown (after (.frameError 3 .A []) opened) = some (0, 3, []) := by decide +kernel

/-- R138, R116, R129. -/
theorem test_nop :
    ((after (.nop 700 .A) opened).port .A) = { openPort with session := .opened 10 700, received := 64 } := by
  decide +kernel

/-- R139: an unknown code with nonzero reserved bits is answered BAD_CODE. -/
theorem test_unknown : shown (after (.unknownRequestCode 3 .A 9 1 0x50 []) opened) = some (9, 4, []) := by decide +kernel

/-- R114, R161: the first open of a port, and the epoch after 255. -/
theorem test_openSession :
    ((after (.openSession 3 .C 1 0 [0xE8, 0x03]) opened).port .C).reply = .done 1 .ok [1, 0x16, 0x4C, 1] 1 ∧
    ((after (.openSession 3 .C 1 0 [0xE8, 0x03])
      (opened.setPort .C { PortState.atReset with epoch := 255 })).port .C).epoch = 1 := by decide +kernel

/-- R114: 9 ms is below the range. R139: the length check. -/
theorem test_openSession_range :
    ((after (.openSession 3 .C 1 0 [9, 0]) opened).port .C).reply = .done 1 .badArg [] 0 ∧
    ((after (.openSession 3 .C 1 0 [10]) opened).port .C).reply = .done 1 .badArg [] 0 := by decide +kernel

/-- R118, R119. -/
theorem test_closeSession :
    (let u := after (.closeSession 3 .A 2 0 []) opened
     ((u.port .A).session, (u.port .A).slot, u.grant, u.engine.service.map (·.job))) =
      (.closing 10 .closed, .working .closeSession 2, none, some (.internal (.sweep .A))) := by decide +kernel

/-- Table 9-8: A and B open, the grant with A, no line, no entry. -/
theorem test_readSession :
    shown (after (.readSession 3 .A 2 0 []) opened) =
      some (2, 1, [1, 1, 10, 0, 32, 0, 0, 0, 0, 0, 0, 0, 1, 0, 3]) := by decide +kernel

/-- R124, R125: GRANT_HELD names the holder; only the holder gives it back. -/
theorem test_grant :
    ((after (.requestGrant 3 .B 2 0 []) opened).port .B).reply = .done 2 .grantHeld [0] 1 ∧
    ((after (.releaseGrant 3 .B 2 0 []) opened).port .B).reply = .done 2 .notGranted [] 1 ∧
    (after (.releaseGrant 3 .A 2 0 []) opened).grant = none := by decide +kernel

/-- R126: the quota of a CLOSED port. -/
theorem test_setQuota :
    (let u := after (.setQuota 3 .A 2 0 [3, 128]) opened; ((u.port .D).quota, shown u)) =
      (128, some (2, 1, [3, 128, 0])) := by decide +kernel

/-- R117, R119: at 10,000 ticks, not before. -/
theorem test_silenceExpiry :
    ((after (.silenceExpiry 10000 .A) opened).port .A).slot = .teardown 0 ∧
    ((after (.silenceExpiry 9999 .A) opened).port .A).slot = .idle := by decide +kernel

/-! ### Conditioner and tracker -/

/-- Table 1-2: the hold of tick 140 completes at 142; that of tick 120 is abandoned at 122. -/
theorem test_conditioner :
    (after (.conditionerHoldBegins 140 .mark .high) opened).markChannel.hold = some 140 ∧
    (State.advanceTo (after (.conditionerHoldBegins 140 .mark .high) opened) 142).delivered .mark = some 140 ∧
    (State.advanceTo (after (.conditionerHoldBegins 140 .mark .high) opened) 141).delivered .mark = none ∧
    (after (.conditionerHoldAbandoned 122 .mark) (after (.conditionerHoldBegins 120 .mark .high) opened)).markChannel
      = { opened.markChannel with sampled := some 122 } := by decide +kernel

/-- ACQUIRING with F = 0 on the MARK channel. -/
def unfiltered : State :=
  { opened with
    tracker := { Tracker.atReset with state := .acquiring, config := { TrackerConfig.default with markFilter := 0 } } }

/-- R1, R2: with F = 0 a hold completes at its own sample and hands on the mark; the tick has no second sample, so the
opposite transition comes at the next tick and the next mark 2 µs after the first. -/
theorem test_conditioner_unfiltered :
    (let a := after (.conditionerHoldBegins 10 .mark .high) unfiltered
     let b := after (.unselectedTransition 10 .mark) a
     let c := after (.mark 12) (after (.conditionerHoldBegins 11 .mark .low) b)
     (a.tracker.reference, b.markChannel.filtered, c.tracker.ring)) =
      (some { time := 10, kind := .genuine }, .level .high, [2]) := by decide +kernel

/-- Table 1-2: the falling transition recognised at 302 is not delivered. -/
theorem test_unselectedTransition :
    (after (.unselectedTransition 302 .mark)
      { opened with markChannel := { pin := .low, filtered := .level .high, hold := some 300, sampled := none } }).markChannel =
        { pin := .low, filtered := .level .low, hold := none, sampled := some 302 } := by decide +kernel

/-- R18: with the grant and STOPPED; outside STOPPED it is WRONG_STATE. -/
theorem test_setTracker :
    (after (.setTracker 3 .A 1 0 [4, 8, 15, 16, 0, 1, 1, 0, 1, 255, 1, 0]) opened).tracker.config =
      { marks := 4, avgDepth := 8, early := 15, late := 16, coastLimit := 0, slipPolicy := .report,
        autoReacquire := true, indexUse := false, markEdge := .falling, markFilter := 255, indexEdge := .falling,
        indexFilter := 0 } ∧
    shown (after (.setTracker 3 .A 1 0 [4, 8, 15, 16, 0, 1, 1, 0, 1, 255, 1, 0]) tracking) = some (1, 9, []) := by
  decide +kernel

/-- R19: STATE START to both OPEN sessions. -/
theorem test_startTracker :
    (let u := after (.startTracker 3 .A 1 0 []) opened
     (u.tracker.state, (u.port .B).queue.map (·.record.payload))) =
      (.acquiring, [.state .stopped .acquiring .start]) := by decide +kernel

/-- R20, R50, R104: from LOCKED, the entry demoted and the line READY. -/
theorem test_stopTracker :
    (let u := after (.stopTracker 3 .A 1 0 []) (withEntry (entryOf 3 1536 .set) tracking)
     (u.tracker.state, (u.slot 20).map (·.status), (u.line 3).mode)) =
      (.stopped, some .pending, .ready) := by decide +kernel

/-- R42, Table 9-8: E 1000, P 16,000, phase 1280, position 5, cycle 50. -/
theorem test_readTracker :
    shown (after (.readTracker 3 .A 1 0 []) tracking) =
      some (1, 1, [2, 1, 0x00, 0x05, 5, 50, 0, 0, 0, 0xE8, 0x03, 0, 0, 0x80, 0x3E, 0, 0, 0, 0, 0]) := by decide +kernel

/-- R15, Table 9-8. -/
theorem test_readHistory :
    shown (after (.readHistory 3 .A 1 0 []) { tracking with tracker := { lockedTracker with ring := [1004, 998] } }) =
      some (1, 1, [2, 0xEC, 0x03, 0, 0, 0xE6, 0x03, 0, 0, 0xE8, 0x03, 0, 0, 4]) := by decide +kernel

/-- E = 2 and EARLY = 15, so that the early bound is 0, the reference at tick 10, a hold begun at tick `n`. -/
def atReference (n : Nat) : State :=
  { marked 12 1280 n with
    tracker :=
      { lockedTracker with
        config := { lockedTracker.config with early := 15 }, ring := [2, 2, 2, 2], estimate := 2,
        reference := some { time := 10, kind := .genuine } } }

/-- R37: a mark at position 6 with the index-pending flag set under REPORT. -/
def slipping : State :=
  { marked 901 1510 900 with
    tracker :=
      { lockedTracker with
        config := { TrackerConfig.default with slipPolicy := .report }, phase := some 1510, indexPending := true,
        indexSeen := true } }

/-- Table 2-4 at tick 902: E 975, position 6, phase 1536. Table 1-3: t = 290 is rejected. R24: a mark with t = 0 is
rejected. R37, R25: SLIP at step 6, before step 8 takes the phase from 1510 to 1536. -/
theorem test_mark :
    (let u := after (.mark 902) (marked 901 1510 900)
     (u.tracker.estimate, u.tracker.markPos, u.tracker.phase, u.walkPos)) =
      (975, some 6, some 1536, .reached 1536) ∧
    (after (.mark 292) (marked 291 1354 290)).tracker = (marked 291 1354 290).tracker ∧
    (after (.mark 12) (atReference 10)).tracker = (atReference 10).tracker ∧
    (let u := after (.mark 902) slipping
     (u.tracker.phase, (u.port .B).queue.map fun r => (r.record.payload, r.record.phase))) =
      (some 1536, [(.slip 6 0, some 1510)]) := by decide +kernel

/-- Table 1-3: the mark at 14,005 locks with E 1001. -/
theorem test_mark_locks :
    (let u := after (.mark 14007)
      { opened with
        now := 14006
        tracker :=
          { lockedTracker with
            state := .acquiring, ring := [1000, 1004, 998], estimate := 1000,
            reference := some { time := 13002, kind := .genuine }, markPos := some 3, cycle := 0, phase := none }
        markChannel := { pin := .high, filtered := .level .low, hold := some 14005, sampled := none } }
     (u.tracker.state, u.tracker.ring, u.tracker.estimate, u.tracker.markPos, u.tracker.phase)) =
      (.locked, [1000, 1004, 998, 1003], 1001, some 4, some 1024) := by decide +kernel

/-- R34, and R41: set in LOCKED, ignored in LOST. -/
theorem test_indexEdge :
    (let s : State :=
      { tracking with
        tracker := { lockedTracker with config := TrackerConfig.default }
        indexChannel := { pin := .high, filtered := .level .low, hold := some 10, sampled := none } }
     ((after (.indexEdge 12) s).tracker.indexPending,
      (after (.indexEdge 12) { s with tracker := { s.tracker with state := .lost } }).tracker.indexPending)) =
      (true, false) := by decide +kernel

/-- 1.5's variation: the reference at 12,004, the limit at 8,400,612. -/
theorem test_noMarkLimit :
    (let s : State :=
      { opened with
        tracker :=
          { lockedTracker with
            state := .acquiring, ring := [1000, 1004], estimate := 1002, phase := none,
            reference := some { time := 12004, kind := .genuine } } }
     ((after (.noMarkLimit 8400612) s).tracker.ring, (after (.noMarkLimit 8400611) s).tracker.ring)) =
      ([], [1000, 1004]) := by decide +kernel

/-- Table 4-4 at tick 1250: position 6, reference NOMINAL 1000, phase 1600; entry 20 fires SET. -/
theorem test_lateTimeout :
    (let u := after (.lateTimeout 1250) (withEntry (entryOf 3 1536 .set)
        { tracking with now := 1249, tracker := { lockedTracker with phase := some 1535 }, walkPos := .reached 1535 })
     (u.tracker.state, u.tracker.reference, (u.line 3).active,
      (u.port .A).queue.map fun r => (r.record.payload, r.record.phase))) =
      (.coasting, some { time := 1000, kind := .nominal }, true,
        [(.state .locked .coasting .coast, some 1600), (.fired 20 3 7 false, some 1600)]) := by decide +kernel

/-- R27: the timeout after COAST_LIMIT substitutions loses tracking. -/
theorem test_lateTimeout_limit :
    (after (.lateTimeout 1250) { tracking with tracker := { lockedTracker with coast := 3 } }).tracker.state = .lost := by
  decide +kernel

/-- Table 4-4 at tick 665: phase 1450, L6's pulse of 100 set to end at 1550 in cycle 50. -/
theorem test_phaseRise :
    (let u := after (.phaseRise 665) (withEntry (entryOf 3 1450 (.pulse .phase 100))
        { tracking with now := 664, tracker := { lockedTracker with phase := some 1449 }, walkPos := .reached 1449 })
     (u.tracker.phase, (u.line 3).pulse)) = (some 1450, .phaseEnd 20 200 1550 50) := by decide +kernel

/-- Table 3-3: id 3 (trigger 100, lead 800) and id 1 (trigger 1100, lead 500) at P = 16,000. -/
theorem test_effective_phases :
    (let e := fun trigger lead =>
      Entry.atBoundary 16000
        { entryOf 3 trigger .set with
          status := .pending
          fields := { (entryOf 3 trigger .set).fields with lead := lead } }
     (((e 100 800).effective, (e 100 800).clamped), ((e 1100 500).effective, (e 1100 500).clamped))) =
      ((0, true), (972, false)) := by decide +kernel

/-! ### Lines -/

/-- R96: an unowned line, and a place in the waiting list. -/
theorem test_claimLine :
    shown (after (.claimLine 3 .A 1 0 [15, 0, 2, 0]) opened) = some (1, 1, [0]) ∧
    ((after (.claimLine 3 .B 1 0 [3, 0, 2, 1]) (withEntry (entryOf 3 0 .set) opened)).port .B).reply =
      .done 1 .queued [1] 1 := by decide +kernel

/-- R98: the owner's release puts the line in SAFE and posts its job. -/
theorem test_releaseLine :
    (let u := after (.releaseLine 3 .A 1 0 [3]) (withEntry (entryOf 3 0 .set) tracking)
     ((u.line 3).mode, (u.port .A).slot, u.engine.service.map (·.job))) =
      (.safe, .working .releaseLine 1, some (.port .A (.releaseDeletion 3))) := by decide +kernel

/-- R102. -/
theorem test_setLineMode :
    (let u := after (.setLineMode 3 .A 1 0 [3, 3]) { opened with lines := opened.lines.set 3 (lineOf .safe) }
     ((u.line 3).mode, shown u)) = (.ready, some (1, 1, [2])) := by decide +kernel

/-- Table 9-8: 33 bytes; L3 owned by A, RUN (3) with its pin LOW (0). -/
theorem test_readLines :
    (shown (after (.readLines 3 .A 1 0 []) (withEntry (entryOf 3 0 .set) tracking))).map
      (fun x => (x.2.2.length, x.2.2.take 8, x.2.2.getLast?)) =
      some (33, [0xFF, 8, 0xFF, 8, 0xFF, 8, 0, 3], some 0) := by decide +kernel

/-- Table 4-4 at tick 1450. -/
theorem test_pulseTimerExpiry :
    (let s : State :=
      { tracking with
        lines := tracking.lines.set 5 { lineOf .run with active := true, pulse := .timeEnd 22 200 1450 } }
     (((after (.pulseTimerExpiry 1450 5) s).line 5).active, ((after (.pulseTimerExpiry 1449 5) s).line 5).active)) =
      (false, true) := by decide +kernel

/-- R106, R107. -/
theorem test_hold :
    (let u := after (.holdAssertion 3) (withEntry (entryOf 3 0 .set) tracking)
     ((u.line 3).mode, (u.port .B).queue.map (·.record.payload))) = (.ready, [.hold true]) ∧
    ((after (.holdDeassertion 4) { opened with hold := { pin := .low, awaiting := none, sampled := none } }).port .B).queue.map
      (·.record.payload) = [.hold false] := by decide +kernel

/-! ### The table and its engine -/

/-- R45: trigger 4096 is out of range; R59: an insertion job posted. -/
theorem test_insertEntry :
    shown (after (.insertEntry 3 .A 1 0 [3, 0, 16, 0, 0, 0, 0, 0, 0, 0, 0, 0]) (withEntry (entryOf 3 0 .set) opened)) =
      some (1, 10, []) ∧
    ((after (.insertEntry 3 .A 1 0 [3, 255, 15, 0, 0, 0, 0, 0, 0, 0, 0, 0])
      (withEntry (entryOf 3 0 .set) opened)).port .A).slot = .working .insertEntry 1 := by decide +kernel

/-- R61, R62: the jobs posted. -/
theorem test_deletions :
    (after (.deleteEntry 3 .A 1 0 [127]) opened).engine.service.map (·.job) =
      some (.port .A (.entryDeletion 127)) ∧
    (after (.clearLineEntries 3 .A 1 0 [3]) (withEntry (entryOf 3 0 .set) opened)).engine.service.map (·.job) =
      some (.port .A (.lineClear 3)) := by decide +kernel

/-- R66, Table 9-8: a notifying SET entry of label 7 at trigger 1024. -/
theorem test_readEntry :
    shown (after (.readEntry 3 .A 1 0 [20]) (withEntry (entryOf 3 1024 .set) opened)) =
      some (1, 1, [20, 0, 3, 0, 4, 64, 0, 0, 0, 0, 0, 0, 7, 0, 1, 200, 0, 0, 0, 0, 4, 0]) := by decide +kernel

/-- R67. -/
theorem test_listEntries :
    shown (after (.listEntries 3 .A 1 0 [20]) (withEntry (entryOf 3 1024 .set) opened)) = some (1, 1, [1, 0, 20, 1]) ∧
    shown (after (.listEntries 3 .A 1 0 [21]) (withEntry (entryOf 3 1024 .set) opened)) = some (1, 1, [0, 0]) := by
  decide +kernel

/-- R60: the lowest empty slot and the next sequence. -/
theorem test_insertion :
    (let u := after (.insertionCompletes 3)
        (serving (.port .A (.insertion (entryOf 3 9 .set).fields)) (working .insertEntry { opened with nextSeq := 258 }))
     (shown u, (u.slot 0).map (·.status), u.nextSeq)) =
      (some (6, 1, [0, 2, 1, 0, 0]), some .pending, 259) := by decide +kernel

/-- R61: the pulse the entry set ends with it. -/
theorem test_entryDeletion :
    (let s := withEntry (entryOf 3 9 (.pulse .phase 9)) tracking
     let u := after (.entryDeletionCompletes 3)
        (serving (.port .A (.entryDeletion 20)) (working .deleteEntry
          { s with lines := s.lines.set 3 { lineOf .run with active := true, pulse := .phaseEnd 20 200 1300 50 } }))
     (shown u, u.slot 20, (u.line 3).active)) = (some (6, 1, [1]), none, false) := by decide +kernel

/-- A pulse pending on line 3, set by the entry in slot 20 with this sequence. -/
def pulsing (seq : Count32) (s : State) : State :=
  { s with lines := s.lines.set 3 { lineOf .run with active := true, pulse := .phaseEnd 20 seq 1300 50 } }

/-- R62, R63, R100: one entry removed; the released line has no new owner. -/
theorem test_lineClear_and_release :
    (let s := withEntry (entryOf 3 9 .set) tracking
     let u := after (.lineClearCompletes 3) (serving (.port .A (.lineClear 3)) (working .clearLineEntries s))
     let v := after (.releaseDeletionCompletes 3)
       (serving (.port .A (.releaseDeletion 3)) (working .releaseLine s))
     (shown u, u.slot 20, shown v, (v.line 3).owner)) =
      (some (6, 1, [1]), none, some (6, 1, [1, 0xFF]), none) := by decide +kernel

/-- R61, R62, R95: a line clear ends the pulse of an entry it removes, leaves that of one that has left the table before,
and leaves an active line with no pulse pending active. -/
theorem test_lineClear_pulse :
    (let s := withEntry (entryOf 3 9 .set) tracking
     [pulsing 200 s, pulsing 199 s, { s with lines := s.lines.set 3 { lineOf .run with active := true } }].map fun u =>
      ((after (.lineClearCompletes 3) (serving (.port .A (.lineClear 3)) u)).line 3).active) = [false, true, true] := by
  decide +kernel

/-- R64, R121, R122: after a silence, NO_SESSION and PEER with cause SILENCE to B. -/
theorem test_sweep :
    (let s := withEntry (entryOf 3 9 .set) opened
     let u := after (.teardownSweepCompletes 3) (serving (.internal (.sweep .A))
       { s with
         ports :=
          { s.ports with
            a := { openPort with session := .closing 10 .silence, slot := .teardown 6, reply := .pending 6 1 } } })
     (shown u, (u.port .A).session, u.slot 20, (u.port .B).queue.map (·.record.payload))) =
      (some (6, 5, []), .closed, none, [.peer .A (some .silence)]) := by decide +kernel

/-- R65: with its sequence, and with another. -/
theorem test_spentRemoval :
    (let s := withEntry { entryOf 3 9 .set with status := .spent } tracking
     ((after (.spentRemovalCompletes 3) (serving (.internal (.spentRemoval 20 200)) s)).slot 20 = none,
      (after (.spentRemovalCompletes 3) (serving (.internal (.spentRemoval 20 201)) s)).slot 20 = s.slot 20)) =
      (True, True) := by
  simp only [Prod.mk.injEq, eq_iff_iff, iff_true]
  decide +kernel

/-! ### Events and attention -/

/-- Table 8-3's port: WATERMARK rising at 3, NONEMPTY falling, TRACKER enabled; two FIRED records stored. -/
def watchful : PortState :=
  { openPort with
    queue :=
      [{ seq := 0, record := { phase := some 1, cycle := 50, payload := .fired 1 3 7 false } },
       { seq := 1, record := { phase := some 2, cycle := 50, payload := .fired 2 3 7 true } }]
    queueSeq := 2
    attention :=
      { enables := { CauseSet.empty with watermark := true, nonempty := true, tracker := true }
        watermarkEdge := .rising
        nonemptyEdge := .falling
        watermark := 3
        latched := CauseSet.empty
        watermarkHolds := false
        nonemptyHolds := true } }

/-- Table 8-3: the STATE record as the third latches WATERMARK and TRACKER, and ATTN is asserted. -/
theorem test_attention :
    (let u := watchful.arrive { phase := none, cycle := 50, payload := .state .locked .coasting .coast }
     (u.attention.latched, u.attention.pin)) =
      ({ CauseSet.empty with watermark := true, tracker := true }, .low) := by decide +kernel

/-- Table 8-3: reading the queue empty latches NONEMPTY under FALLING. Tables 9-9 and 9-10: the record's bytes. -/
theorem test_readEvents :
    (let u := after (.readEvents 3 .A 1 0 [4]) (opened.setPort .A watchful)
     (shown u, (u.port .A).attention.latched.nonempty)) =
      (some (1, 1, [2, 1, 0, 1, 0, 50, 0, 0, 0, 1, 3, 7, 0, 1, 1, 2, 0, 50, 0, 0, 0, 130, 3, 7, 0, 0]), true) := by
  decide +kernel

/-- R147: the mask and K in force; a reserved bit is BAD_ARG. -/
theorem test_setEventMask :
    shown (after (.setEventMask 3 .A 1 0 [18, 255]) opened) = some (1, 1, [18, 255]) ∧
    shown (after (.setEventMask 3 .A 1 0 [32, 0]) opened) = some (1, 10, []) := by decide +kernel

/-- R156: the condition re-evaluated at W = 2 without a latch; W = 32 is BAD_ARG. -/
theorem test_setAttention :
    (let u := after (.setAttention 3 .A 1 0 [1, 4, 2]) (opened.setPort .A watchful)
     ((u.port .A).attention.watermarkHolds, (u.port .A).attention.latched.watermark)) = (true, false) ∧
    shown (after (.setAttention 3 .A 1 0 [1, 4, 32]) opened) = some (1, 10, []) := by decide +kernel

/-- R157: the request's own reply latches REPLY first; a set that names it leaves it clear. -/
theorem test_ackAttention :
    shown (after (.ackAttention 3 .A 1 0 [1]) opened) = some (1, 1, [4]) ∧
    shown (after (.ackAttention 3 .A 1 0 [4]) opened) = some (1, 1, [0]) := by decide +kernel

/-! ### The step -/

/-- The front command is taken first. -/
theorem test_step :
    (match step { opened with pending := [.nop 5 .A, .nop 9 .B] } with
     | .next u => (u.now, u.pending)
     | _ => (0, [])) = (5, [.nop 9 .B]) := by decide +kernel

/-- An idle tick with nothing due. -/
theorem test_step_idle :
    (match step opened with
     | .next u => (u.now, u.pending)
     | _ => (0, [.nop 0 .A])) = (1, []) := by decide +kernel

/-! ### Witnesses: operands and states that meet the hypotheses of the statements -/

/-- A frame error by the checks of R130. -/
def BadFrame (bytes : List Byte) : Prop :=
  bytes.length < 64 ∨ 59 < (bytes.getD 2 0).toNat ∨
    crc8 (bytes.take (3 + (bytes.getD 2 0).toNat)) ≠ bytes.getD (3 + (bytes.getD 2 0).toNat) 0

theorem takes_A : opened.TakesRequests .A := ⟨by decide, by decide⟩
theorem takes_C : opened.TakesRequests .C := ⟨by decide, by decide⟩
theorem admits_A : opened.Admits .A := ⟨by decide, by decide, by decide⟩
theorem admits_tracking : tracking.Admits .A := ⟨by decide, by decide, by decide⟩

/-- An empty queue; at tick 902 a hold of tick 900 and a phase rise are due. -/
theorem witness_IdleStepLetsOneTickPass :
    opened.pending = [] ∧ State.Due (State.advanceTo (marked 901 1509 900) 902) (.mark 902) ∧
    State.Due (State.advanceTo (marked 901 1509 900) 902) (.phaseRise 902) := by
  refine ⟨rfl, .edge .mark .low ⟨by decide, by decide, 900, by decide, by decide⟩ (by unfold TrackerConfig.Selects; decide), ?_⟩
  exact .phaseRise 1509 (by decide) (by decide) (by decide)

/-- 63 bytes; a length of 60; a wrong CRC; no body; a body of 59. -/
theorem witness_FrameChecksDecideTheCommand :
    BadFrame (List.replicate 63 0) ∧ BadFrame ([0, 0, 60] ++ List.replicate 61 0) ∧
    BadFrame ([0, 0, 0, 1] ++ List.replicate 60 0) ∧ ¬BadFrame (List.replicate 64 0) ∧
    ¬BadFrame (encodeFrame 3 0 0x40 (List.replicate 59 0xFF)) ∧
    64 ≤ (encodeFrame 3 0 0x40 (List.replicate 59 0xFF)).length ∧ (List.replicate 7 true).length < 8 := by
  unfold BadFrame
  decide +kernel

/-- A request with the longest body and every bit of the first byte, a NOP, an unknown code, frame errors of 0 and 64. -/
theorem witness_EncodedTransactionsReadBack :
    (let l := [Instr.ackAttention 3 .D 15 15 (List.replicate 59 0xFF), .nop 3 .A, .unknownRequestCode 0 .B 1 0 255 [],
       .frameError 3 .A [], .frameError 3 .A ([0, 0, 60] ++ List.replicate 61 0)]
     l.all fun i => i.wf && (encodeTransaction i).isSome) = true := by decide +kernel

/-- A port with no transaction whose register holds a body of 57 bytes; one with a transaction; one after a RESET. -/
theorem witness_SelectCapturesTheReplyFrame :
    (let s := opened.setPort .A { openPort with reply := .done 3 .ok (List.replicate 57 1) 1 }
     (s.port .A).transaction = .none ∧
      ∀ tag st body epoch, (s.port .A).reply = .done tag st body epoch → body.length ≤ 57) ∧
    ((opened.setPort .A { openPort with transaction := .inProgress [] }).port .A).transaction ≠ .none ∧
    (Instr.readLines 3 .A 1 0 []).transactionEnd = some (3, .A) ∧
    ((opened.setPort .A { openPort with transaction := .ignored }).port .A).transaction = .ignored ∧
    (List.replicate 64 (0xFF : Byte)).length = 64 ∧ (List.replicate 64 (0xFF : Byte))[63]? = some 0xFF ∧
    (∀ captured, openPort.transaction ≠ .inProgress captured) := by
  refine ⟨⟨by decide, ?_⟩, by decide, by decide, by decide, by decide, by decide, fun _ => by rintro ⟨⟩⟩
  intro tag st body epoch h
  have : (Reply.done 3 .ok (List.replicate 57 1) 1 : Reply) = .done tag st body epoch := h
  cases this
  decide

theorem witness_FrameErrorIsRejectedOrDiscarded :
    BadFrame [] ∧ opened.TakesRequests .A ∧ ((working .insertEntry opened).port .A).slot ≠ .idle ∧
    ((working .insertEntry opened).port .A).transaction ≠ .ignored :=
  ⟨Or.inl (by decide), takes_A, by decide, by decide⟩

theorem witness_NopOnlyGivesTheAliveNotice :
    (opened.port .A).transaction ≠ .ignored ∧ (opened.port .C).transaction ≠ .ignored := by decide

theorem witness_BusyRequestIsDiscarded :
    (Instr.openSession 3 .A 1 0 [10, 0]).requestFrame = some ⟨3, .A, 1, 0, 1, [10, 0]⟩ ∧
    ((working .insertEntry opened).port .A).slot ≠ .idle ∧
    ((working .insertEntry opened).port .A).transaction ≠ .ignored := by decide

/-- Each of the five checks failing first. -/
theorem witness_AdmissionRefusesAtTheFirstFailingCheck :
    (opened.TakesRequests .A ∧ opened.TakesRequests .C ∧ tracking.TakesRequests .A) ∧
    (Instr.unknownRequestCode 3 .A 1 1 0x50 []).wf = true ∧ (Instr.readTracker 3 .C 1 0 [1]).wf = true ∧
    opened.refusal ⟨3, .A, 1, 1, 0x50, []⟩ = some .badCode ∧
    opened.refusal ⟨3, .C, 1, 0, 0x13, [1]⟩ = some .noSession ∧
    opened.refusal ⟨3, .B, 1, 0, 0x12, []⟩ = some .notGranted ∧
    tracking.refusal ⟨3, .A, 1, 0, 0x11, [1]⟩ = some .wrongState ∧
    opened.refusal ⟨3, .A, 1, 0, 0x40, [5]⟩ = some .badArg :=
  ⟨⟨takes_A, takes_C, by decide, by decide⟩, by decide +kernel⟩

/-- Limits of 10 and 60,000 ms, from CLOSED and from OPEN. -/
theorem witness_OpenSessionOpensAClosedSession :
    (opened.TakesRequests .C ∧ opened.TakesRequests .A) ∧ (10 ≤ 10 ∧ 10 ≤ 60000) ∧ (10 ≤ 60000 ∧ 60000 ≤ 60000) ∧
    (opened.port .C).session = .closed ∧ (opened.port .A).isOpen = true :=
  ⟨⟨takes_C, takes_A⟩, by decide, by decide, by decide, by decide⟩

/-- A limit of 10 ms: silence at 10,000 ticks and not at 9,999; a port that is not OPEN. -/
theorem witness_TeardownBeginsInFiveSteps :
    opened.TakesRequests .A ∧ (opened.port .A).session = .opened 10 0 ∧ 10 * 1000 ≤ max opened.now 10000 - 0 ∧
    (∀ limit start, (opened.port .A).session = .opened limit start → max opened.now 9999 - start < limit * 1000) ∧
    (∀ limit start, (opened.port .C).session = .opened limit start → max opened.now 9999 - start < limit * 1000) := by
  refine ⟨takes_A, by decide, by decide, ?_, ?_⟩
  · intro limit start h
    have : Session.opened 10 0 = .opened limit start := h
    cases this
    decide
  · intro limit start h
    exact absurd h (by rintro ⟨⟩)

/-- An OPEN session, and a line in each mode. -/
theorem witness_SessionAndLinesAreReadWithoutChange :
    (opened.TakesRequests .A ∧ opened.Admits .A) ∧ (opened.port .A).session = .opened 10 0 ∧
    LineState.released.mode = .released ∧ (lineOf .safe).mode = .safe ∧ (lineOf .ready).mode = .ready ∧
    (lineOf .run).mode = .run :=
  ⟨⟨takes_A, admits_A⟩, by decide, by decide, by decide, by decide, by decide⟩

/-- The grant free, held by the requester, held by another port. -/
theorem witness_GrantIsTakenWhenFreeAndGivenBack :
    State.Admits { opened with grant := none } .A ∧ opened.Admits .A ∧ opened.Admits .B ∧ opened.grant = some .A ∧
    Port.A ≠ .B ∧ opened.grant ≠ some .B :=
  ⟨⟨by decide, by decide, by decide⟩, admits_A, ⟨by decide, by decide, by decide⟩, by decide, by decide, by decide⟩

theorem witness_SetQuotaSetsTheNamedPortsQuota :
    opened.Admits .A ∧ opened.grant = some .A ∧ 0 ≤ 128 ∧ 128 ≤ 128 := ⟨admits_A, by decide⟩

/-- The default record, and one at the other end of every range. -/
theorem witness_SetTrackerReplacesTheRecord :
    opened.Admits .A ∧ opened.grant = some .A ∧ opened.tracker.state = .stopped ∧ TrackerConfig.default.Legal ∧
    TrackerConfig.Legal
      { marks := 64, avgDepth := 8, early := 15, late := 16, coastLimit := 15, slipPolicy := .report,
        autoReacquire := true, indexUse := false, markEdge := .falling, markFilter := 255, indexEdge := .falling,
        indexFilter := 255 } :=
  ⟨admits_A, by decide, by decide, ⟨by decide, by decide, by decide, by decide, by decide, by decide, by decide⟩,
    ⟨by decide, by decide, by decide, by decide, by decide, by decide, by decide⟩⟩

/-- The tracker LOST, as R40 leaves it. -/
def lostState : State :=
  { tracking with
    tracker :=
      { lockedTracker with
        state := .lost, ring := [], estimate := 0, reference := none, markPos := none, phase := none }
    walkPos := .none }

theorem admits_lost : lostState.Admits .A := ⟨by decide, by decide, by decide⟩

theorem witness_StartTrackerBeginsAcquisition :
    (opened.Admits .A ∧ opened.grant = some .A ∧ opened.tracker.state = .stopped) ∧
    (lostState.Admits .A ∧ lostState.grant = some .A ∧ lostState.tracker.state = .lost) :=
  ⟨⟨admits_A, by decide, by decide⟩, ⟨admits_lost, by decide, by decide⟩⟩

theorem witness_StopTrackerEndsTracking :
    (opened.Admits .A ∧ opened.grant = some .A ∧ opened.tracker.state = .stopped) ∧
    (tracking.Admits .A ∧ tracking.grant = some .A ∧ tracking.tracker.state ≠ .stopped) ∧
    (lostState.Admits .A ∧ lostState.grant = some .A ∧ lostState.tracker.state ≠ .stopped) :=
  ⟨⟨admits_A, by decide, by decide⟩, ⟨admits_tracking, by decide, by decide⟩, ⟨admits_lost, by decide, by decide⟩⟩

theorem witness_TrackerIsReadWithoutChange : tracking.Admits .A ∧ lostState.Admits .A :=
  ⟨admits_tracking, admits_lost⟩

/-- Line 3 owned by A in RUN, with waiters. -/
def lineWith (ws : List Waiter) : State := { opened with lines := opened.lines.set 3 { lineOf .run with waiting := ws } }

/-- A waiting record of a port. -/
def waiterOf (p : Port) : Waiter := { port := p, polarity := .activeLow, safeLevel := .high }

theorem admits_line_A (ws : List Waiter) : (lineWith ws).Admits .A :=
  ⟨by rfl, (by decide : (opened.port .A).transaction ≠ .ignored), by rfl⟩
theorem admits_line_B (ws : List Waiter) : (lineWith ws).Admits .B :=
  ⟨by rfl, (by decide : (opened.port .B).transaction ≠ .ignored), by rfl⟩

/-- A line unowned, the claimant's, and another's with it waiting, with 2 waiting, with 3 waiting. -/
theorem witness_ClaimLineFollowsItsTable :
    (opened.Admits .A ∧ (opened.line 3).owner = none) ∧
    (∀ ws, (lineWith ws).Admits .A ∧ (lineWith ws).Admits .B) ∧ ((lineWith []).line 3).owner = some .A ∧
    Port.A ≠ .B ∧ Port.B ∈ ((lineWith [waiterOf .C, waiterOf .B]).line 3).waiting.map (·.port) ∧
    Port.B ∉ ((lineWith [waiterOf .C, waiterOf .D]).line 3).waiting.map (·.port) ∧
    ((lineWith [waiterOf .C, waiterOf .D]).line 3).waiting.length < 3 ∧
    3 ≤ ((lineWith [waiterOf .C, waiterOf .D, waiterOf .C]).line 3).waiting.length :=
  ⟨⟨admits_A, by decide⟩, fun ws => ⟨admits_line_A ws, admits_line_B ws⟩, by decide⟩

theorem witness_ReleaseFromAnotherPortIsImmediate :
    (lineWith [waiterOf .B]).Admits .B ∧ ((lineWith [waiterOf .B]).line 3).owner ≠ some .B ∧
    Port.B ∈ ((lineWith [waiterOf .B]).line 3).waiting.map (·.port) ∧
    Port.B ∉ ((lineWith []).line 3).waiting.map (·.port) :=
  ⟨admits_line_B _, by decide⟩

/-- A port that is not the owner; the owner with the line in each of its modes. -/
theorem witness_SetLineModeFollowsItsTable :
    (lineWith []).Admits .B ∧ ((lineWith []).line 3).owner ≠ some .B ∧ (lineWith []).Admits .A ∧
    ((lineWith []).line 3).owner = some .A ∧ ((lineWith []).line 3).mode = .run ∧
    ((opened.lines.set 3 (lineOf .safe)).get 3).mode = .safe ∧
    ((opened.lines.set 3 (lineOf .ready)).get 3).mode = .ready :=
  ⟨admits_line_B _, by decide, admits_line_A _, by decide⟩

/-- Entry fields at both ends of their ranges. -/
theorem witness_LongRequestsPostTheirJobs :
    (opened.Admits .A ∧ (lineWith []).Admits .A) ∧ EntryFields.Legal (entryOf 3 0 .set).fields ∧
    EntryFields.Legal
      { line := 3, trigger := 4095, action := .pulse .phase 4095, lead := 65535, filter := .nth 255 254,
        notify := false, label := 0 } ∧
    ((lineWith []).line 3).owner = some .A ∧ (opened.line 3).owner ≠ some .A := by
  refine ⟨⟨admits_A, admits_line_A _⟩, ⟨by decide, ?_, ?_, by decide, ?_⟩, ⟨by decide, ?_, ?_, by decide, ?_⟩,
    by decide, by decide⟩
  · intro w h; cases h
  · intro w h; cases h
  · intro n off h; cases h
  · intro w h; cases h; decide
  · intro w h; cases h
  · intro n off h; cases h; decide

/-- An empty slot, A's own entry, A's entry asked for by B. -/
theorem witness_EntriesAreReadWithoutChange :
    opened.Admits .A ∧ opened.slot 20 = none ∧ (withEntry (entryOf 3 9 .set) opened).Admits .A ∧
    (withEntry (entryOf 3 9 .set) opened).Admits .B ∧
    (withEntry (entryOf 3 9 .set) opened).slot 20 = some (entryOf 3 9 .set) ∧ (entryOf 3 9 .set).owner = .A ∧
    (entryOf 3 9 .set).owner ≠ .B :=
  ⟨admits_A, by decide, ⟨by decide, by decide, by decide⟩, ⟨by decide, by decide, by decide⟩, by decide +kernel⟩

/-- Counts of 1 and 4, an empty queue and one with records. -/
theorem witness_ReadEventsRemovesTheOldest :
    opened.Admits .A ∧ (opened.setPort .A watchful).Admits .A ∧ 1 ≤ 1 ∧ 1 ≤ 4 ∧ 4 ≤ 4 ∧
    (opened.port .A).queue = [] ∧ ((opened.setPort .A watchful).port .A).queue.length = 2 :=
  ⟨admits_A, ⟨by decide, by decide, by decide⟩, by decide⟩

theorem witness_SettingsAreReplacedAtOnce : opened.Admits .A ∧ 0 ≤ 255 ∧ 255 ≤ 255 ∧ 1 ≤ 1 ∧ 1 ≤ 31 ∧ 31 ≤ 31 :=
  ⟨admits_A, by decide⟩

theorem witness_AckClearsAfterItsOwnReplyLatches : opened.Admits .A := admits_A

/-- The MARK channel with this filtered level, hold and filter length. -/
def filtering (l : Level) (hold : Option Nat) (f : Nat) : State :=
  { opened with
    tracker := { Tracker.atReset with config := { TrackerConfig.default with markFilter := f } }
    markChannel := { pin := l, filtered := .level l, hold := hold, sampled := none } }

/-- A sample taken already and one still to be taken; a channel that awaits its first sample, with a hold in progress,
and with none; F of 2 and of 0; a rising and a falling transition; a hold of tick 140 at its completing tick; the INDEX
channel with INDEX_USE OFF. -/
theorem witness_ConditionerFollowsItsInput :
    (State.reset.channel .mark).sampled = some (max State.reset.now 0) ∧
    (State.reset.channel .mark).filtered = .awaiting 0 ∧ (State.reset.channel .mark).sampled ≠ some 1 ∧
    ((State.reset.advanceTo 1).channel .mark).filtered = .awaiting 0 ∧
    (let s := filtering .low none 2
     ((s.advanceTo 10).channel .mark).filtered = .level .low ∧ ((s.advanceTo 10).channel .mark).hold = none ∧
      ((s.advanceTo 10).channel .mark).sampled ≠ some (max s.now 10) ∧ s.tracker.config.filterOf .mark ≠ 0 ∧
      Level.high ≠ .low) ∧
    ((filtering .low none 0).tracker.config.filterOf .mark = 0 ∧
      TrackerConfig.Selects (filtering .low none 0).tracker.config .mark Level.low.leaving ∧
      ¬TrackerConfig.Selects (filtering .high none 0).tracker.config .mark Level.high.leaving) ∧
    (let s := filtering .low (some 140) 2
     ((s.advanceTo 142).channel .mark).filtered = .level .low ∧ ((s.advanceTo 142).channel .mark).hold = some 140 ∧
      ((s.advanceTo 142).channel .mark).sampled ≠ some (max s.now 142) ∧
      max s.now 142 ≤ 140 + s.tracker.config.filterOf .mark ∧
      140 + s.tracker.config.filterOf .mark ≤ max s.now 142) ∧
    ¬TrackerConfig.Selects { TrackerConfig.default with indexUse := false } .index Level.low.leaving := by
  unfold TrackerConfig.Selects
  decide

/-- A mark recorded at tick `n` and recognised at `n + 2`, with this tracker. -/
def markWith (t : Tracker) (n : Nat) : State :=
  { opened with
    tracker := t, markChannel := { pin := .high, filtered := .level .low, hold := some n, sampled := none } }

theorem witness_MarkInStoppedOrLost :
    (let s := markWith Tracker.atReset 10
     (s.advanceTo 12).delivered .mark = some 10 ∧ s.tracker.state = .stopped) ∧
    (let s := markWith lostState.tracker 10
     (s.advanceTo 12).delivered .mark = some 10 ∧ s.tracker.state = .lost ∧ s.tracker.config.autoReacquire = false) ∧
    (let s := markWith { lostState.tracker with config := { TrackerConfig.default with autoReacquire := true } } 10
     (s.advanceTo 12).delivered .mark = some 10 ∧ s.tracker.state = .lost ∧
      s.tracker.config.autoReacquire = true ∧ 1 ≤ s.tracker.config.avgDepth) := by decide

/-- ACQUIRING with two intervals in the ring and with three, the position defined (Table 1-3). -/
theorem witness_MarkInAcquiringIsTakenAndMayLock :
    (let t : Tracker :=
      { lockedTracker with
        state := .acquiring, ring := [1000, 1004], reference := some { time := 12004, kind := .genuine },
        markPos := some 2, phase := none }
     let s := markWith t 13002
     (s.advanceTo 13004).delivered .mark = some 13002 ∧ s.tracker.state = .acquiring ∧
      ¬(s.tracker.config.avgDepth ≤ (s.tracker.acquired 13002).ring.length ∧
        (s.tracker.positionTaken).isSome = true)) ∧
    (let t : Tracker :=
      { lockedTracker with
        state := .acquiring, ring := [1000, 1004, 998], reference := some { time := 13002, kind := .genuine },
        markPos := some 15, phase := none }
     let s := markWith t 14005
     (s.advanceTo 14007).delivered .mark = some 14005 ∧ s.tracker.state = .acquiring ∧
      s.tracker.config.avgDepth ≤ (s.tracker.acquired 14005).ring.length ∧ s.tracker.positionTaken = some 0) := by
  decide +kernel

/-- E 1000 and EARLY 4: a mark at 749, in LOCKED and in COASTING; a mark at a reference with
the early bound 0. -/
theorem witness_EarlyMarkIsRejected :
    (let s := marked 750 1280 749
     (s.advanceTo 751).delivered .mark = some 749 ∧ s.tracker.state = .locked ∧
      s.tracker.reference = some { time := 0, kind := .genuine } ∧
      749 - 0 < s.tracker.estimate * (16 - s.tracker.config.early) / 16) ∧
    (let s := markWith { lockedTracker with state := .coasting } 749
     (s.advanceTo 751).delivered .mark = some 749 ∧ s.tracker.state = .coasting) ∧
    (let s := atReference 10
     (s.advanceTo 12).delivered .mark = some 10 ∧ s.tracker.state = .locked ∧
      s.tracker.reference = some { time := 10, kind := .genuine } ∧ 10 ≤ 10 ∧
      s.tracker.estimate * (16 - s.tracker.config.early) / 16 = 0) := by decide

theorem witness_AcceptedMarkTakesItsSteps :
    (let s := marked 750 1280 750
     (s.advanceTo 752).delivered .mark = some 750 ∧ s.tracker.state = .locked ∧
      s.tracker.reference = some { time := 0, kind := .genuine } ∧
      0 < 750 ∧ s.tracker.estimate * (16 - s.tracker.config.early) / 16 ≤ 750 - 0) ∧
    (let s := markWith { lockedTracker with state := .coasting } 750
     (s.advanceTo 752).delivered .mark = some 750 ∧ s.tracker.state = .coasting) := by decide

/-- Positions 5 and 14 of 16 with no slip pending, and position 5 with one pending under REPORT. -/
theorem witness_StepWithoutABoundary :
    tracking.tracker.reference = some { time := 0, kind := .genuine } ∧ tracking.tracker.markPos = some 5 ∧
    5 + 1 < tracking.tracker.config.marks ∧ 14 + 1 < tracking.tracker.config.marks ∧
    (tracking.tracker.indexPending = true → tracking.tracker.config.slipPolicy = .report) ∧
    ({ TrackerConfig.default with slipPolicy := .report } : TrackerConfig).slipPolicy = .report := by decide

/-- The tracker of Table 2-4 with INDEX_USE ON, at a position, with the two flags and the missed-index count. -/
def indexed (pos : Nat) (seen pending : Bool) (missed : Nat) : State :=
  { tracking with
    tracker :=
      { lockedTracker with
        config := TrackerConfig.default, markPos := some pos, indexSeen := seen, indexPending := pending,
        missed := missed } }

/-- A wrap with the index seen, one that misses it for the first time, and an ALIGN slip at position 1. -/
theorem witness_BoundaryIsHandedOverInThreeParts :
    (indexed 15 true true 1).tracker.reference = some { time := 0, kind := .genuine } ∧
    (indexed 15 true true 1).tracker.markPos = some 15 ∧ 15 + 1 = (indexed 15 true true 1).tracker.config.marks ∧
    ¬(indexed 15 true true 1).tracker.losingWrap 15 ∧ ¬(indexed 15 false false 0).tracker.losingWrap 15 ∧
    (0 + 1 < (indexed 0 true true 0).tracker.config.marks ∧ (indexed 0 true true 0).tracker.indexPending = true ∧
      (indexed 0 true true 0).tracker.config.slipPolicy = .align) := by
  unfold Tracker.losingWrap
  decide

theorem witness_LosingWrapLosesTracking :
    (indexed 15 false false 1).tracker.markPos = some 15 ∧ (indexed 15 false false 1).tracker.losingWrap 15 := by
  unfold Tracker.losingWrap
  decide

/-- An index edge at a tracker in this state. -/
def indexWith (st : TrackerState) : State :=
  { indexed 5 false false 0 with
    tracker := { (indexed 5 false false 0).tracker with state := st }
    indexChannel := { pin := .high, filtered := .level .low, hold := some 10, sampled := none } }

theorem witness_IndexEdgeArmsTheCheck :
    ([TrackerState.acquiring, .locked, .coasting, .stopped, .lost].all fun st =>
      decide (((indexWith st).advanceTo 12).delivered .index = some 10 ∧ (indexWith st).tracker.state = st)) = true := by
  decide

theorem witness_NoMarkLimitClearsTheRing :
    (let s := markWith
       { lockedTracker with
         state := .acquiring, reference := some { time := 12004, kind := .genuine }, phase := none } 0
     s.tracker.state = .acquiring ∧ s.tracker.reference = some { time := 12004, kind := .genuine } ∧
      8388608 ≤ max s.now 8400612 - 12004) := by decide

/-- At the late bound of 1250, with coast counts 2 and 3 of 3, at a position that wraps without and with a loss. -/
theorem witness_LateTimeoutSubstitutesOrLosesTracking :
    tracking.tracker.reference = some { time := 0, kind := .genuine } ∧ tracking.tracker.markPos = some 5 ∧
    5 < tracking.tracker.config.marks ∧
    tracking.tracker.estimate * (16 + tracking.tracker.config.late) / 16 ≤ max tracking.now 1250 - 0 ∧
    tracking.tracker.coast < tracking.tracker.config.coastLimit ∧ ¬tracking.tracker.losingWrap 5 ∧
    (indexed 15 false false 1).tracker.losingWrap 15 ∧ 15 < (indexed 15 false false 1).tracker.config.marks ∧
    ({ lockedTracker with coast := 3 } : Tracker).config.coastLimit ≤ 3 := by
  unfold Tracker.losingWrap
  decide

/-- At tick 665 from 1449 to 1450 (Table 4-4), and at tick 0 where the phase stands. -/
theorem witness_PhaseRisesAsElapsedTime :
    tracking.tracker.state = .locked ∧ tracking.tracker.reference = some { time := 0, kind := .genuine } ∧
    tracking.tracker.markPos = some 5 ∧ tracking.tracker.phase = some 1280 ∧
    1450 = phaseFormula tracking.tracker.config.marks tracking.tracker.estimate 5 (max tracking.now 665 - 0) ∧
    1280 = phaseFormula tracking.tracker.config.marks tracking.tracker.estimate 5 (max tracking.now 0 - 0) ∧
    tracking.tracker.config.marks ∈ [1, 2, 4, 8, 16, 32, 64] ∧ 5 < tracking.tracker.config.marks := by decide

/-- A SET, a PULSE whose end lies in the next cycle, and a ONCE entry fire; one that fired already is passed. -/
theorem witness_ReachedEntryFiresOrIsPassed :
    (withEntry (entryOf 3 9 .set) tracking).slot 20 = some (entryOf 3 9 .set) ∧
    (withEntry (entryOf 3 9 .set) tracking).Fires 20 (entryOf 3 9 .set) 50 ∧
    (withEntry (entryOf 3 4095 (.pulse .phase 4095)) tracking).Fires 20 (entryOf 3 4095 (.pulse .phase 4095)) 50 ∧
    ¬State.Fires
      { withEntry (entryOf 3 9 .set) tracking with
        lastFired := tracking.lastFired.set 20 (some 50) } 20 (entryOf 3 9 .set) 50 := by
  refine ⟨by decide +kernel, ⟨by decide, by decide +kernel, by decide +kernel, ?_⟩,
    ⟨by decide, by decide +kernel, by decide +kernel, ?_⟩, ?_⟩
  · intro n off h; cases h
  · intro n off h; cases h
  · intro h
    exact h.2.2.1 (by decide +kernel)

/-- No walk position; before 0; at 1280 with nothing due, and with an entry due at 1536 that fires, the least of the
range, its pulse of width 1. -/
theorem witness_AdvanceTakesWhatIsDueAndNothingElse :
    lostState.walkPos = .none ∧ tracking.walkPos.next = some 1281 ∧ WalkPos.before0.next = some 0 ∧
    (∀ ph, ¬tracking.DueAt 50 ph) ∧ (∀ i e w, tracking.slot i = some e → e.fields.action = .pulse .phase w → 1 ≤ w) ∧
    (let e := entryOf 3 1536 (.pulse .phase 1)
     let s := withEntry e tracking
     s.walkPos.next = some 1281 ∧ s.slot 20 = some e ∧ 1281 ≤ e.effective ∧ e.effective ≤ 1536 ∧ s.Fires 20 e 50 ∧
      s.DueAt 50 1536 ∧ ∀ q, q < 1536 → ¬s.DueAt 50 q) ∧
    (∀ e, tracking.slot 0 = some e → e.status = .active → e.effective < 1281 ∨ 1281 < e.effective) := by
  have none_slot : ∀ i, tracking.slot i = none := by decide +kernel
  have none_pulse : ∀ l, (tracking.line l).pulse = .none := by decide +kernel
  refine ⟨by decide, by decide, by decide, ?_, ?_, ⟨by decide, by decide +kernel, by decide, by decide, ?_, ?_, ?_⟩, ?_⟩
  · rintro ph (⟨l, id, seq, h⟩ | ⟨i, e, h, _⟩)
    · rw [none_pulse] at h
      cases h
    · rw [none_slot] at h
      cases h
  · intro i e w h
    rw [none_slot] at h
    cases h
  · refine ⟨by decide, by decide +kernel, by decide +kernel, ?_⟩
    intro n off h
    cases h
  · exact .inr ⟨20, entryOf 3 1536 (.pulse .phase 1), by decide +kernel, by decide, by decide⟩
  · rintro q hq (⟨l, id, seq, h⟩ | ⟨i, e, h, _, he⟩)
    · have key : ∀ l, ((withEntry (entryOf 3 1536 (.pulse .phase 1)) tracking).line l).pulse = .none := by
        decide +kernel
      rw [key] at h
      cases h
    · have key : ∀ i, ((withEntry (entryOf 3 1536 (.pulse .phase 1)) tracking).slot i).all
          (fun e => decide (e.effective = 1536)) = true := by decide +kernel
      have := key i
      rw [h] at this
      simp only [Option.all_some, decide_eq_true_eq] at this
      omega
  · intro e h
    rw [none_slot] at h
    cases h

/-- A lead of 800 at P = 16,000 (Table 3-3): k = 205. -/
theorem witness_BoundaryPromotesComputesAndRuns :
    1 ≤ 16000 ∧ tracking.slot 0 = none ∧ 800 * 4096 ≤ 205 * 16000 ∧ (∀ j < 205, j * 16000 < 800 * 4096) ∧
    (withEntry (entryOf 3 100 .set) tracking).slot 20 = some (entryOf 3 100 .set) ∧
    (entryOf 3 100 .set).status ≠ .spent ∧ (tracking.port .C).isClosed = true ∧ (tracking.port .A).isClosed = false := by
  refine ⟨by decide, by decide +kernel, by decide, ?_, by decide +kernel⟩
  omega

/-- A timer at its expiry; HOLD high, low, and before its first sample, none sampled yet. -/
theorem witness_PulseTimersAndHoldQuietTheLines :
    (({ opened with
        lines := opened.lines.set 5 { lineOf .run with active := true, pulse := .timeEnd 22 200 1450 } } : State).line
        5).pulse = .timeEnd 22 200 1450 ∧ 1450 ≤ max opened.now 1450 ∧
    (opened.advanceTo 3).hold.pin = .high ∧ (opened.advanceTo 3).hold.awaiting = none ∧
    opened.hold.sampled ≠ some (max opened.now 3) ∧
    (State.advanceTo { opened with hold := { pin := .low, awaiting := none, sampled := some 2 } } 3).hold =
      { pin := .low, awaiting := none, sampled := some 2 } ∧ (some 2 : Option Nat) ≠ some (max opened.now 3) ∧
    (State.reset.advanceTo 1).hold.awaiting ≠ none ∧ State.reset.hold.sampled ≠ some (max State.reset.now 1) := by
  decide

/-- A busy engine; an idle one with an internal job, with the job of D after C was served, and with none. -/
theorem witness_EngineChoosesInternalJobsThenPortsInTurn :
    (let e : Engine :=
      { internal := [], waiting := { a := some (.lineClear 1), b := none, c := none, d := some (.lineClear 2) },
        service := none, lastServed := .C }
     e.service = none ∧ e.internal = [] ∧ e.waiting.get .D = some (.lineClear 2) ∧
      ∀ q, stepsAfter e.lastServed q < stepsAfter e.lastServed .D → e.waiting.get q = none) ∧
    Engine.atReset.service = none ∧ Engine.atReset.internal = [] ∧ (∀ p, Engine.atReset.waiting.get p = none) := by
  refine ⟨⟨by decide, by decide, by decide, ?_⟩, by decide, by decide, ?_⟩
  · intro q; cases q <;> decide
  · intro p; cases p <;> decide

/-- Every slot full of B's entries. -/
def fullTable : State :=
  { opened with slots := Bank.fill 128 (some { entryOf 3 9 .set with owner := .B }) }

/-- At a quota of 0; with the table full; with the lowest empty slot 0. -/
theorem witness_InsertionCompletesWithItsChecks :
    (let s := serving (.port .A (.insertion (entryOf 3 9 .set).fields)) opened
     s.engine.service = some { job := .port .A (.insertion (entryOf 3 9 .set).fields), takenAt := 0, draw := 0 }) ∧
    0 < max opened.now 1 ∧
    (PortState.quota { openPort with quota := 0 } ≤ opened.slotsWith fun e => decide (e.owner = .A)) ∧
    (fullTable.slotsWith (fun e => decide (e.owner = .A)) < (fullTable.port .A).quota ∧
      ∀ i, fullTable.slot i ≠ none) ∧
    (opened.slotsWith (fun e => decide (e.owner = .A)) < (opened.port .A).quota ∧ opened.slot 0 = none ∧
      ∀ i < (0 : EntryId), opened.slot i ≠ none) := by decide +kernel

/-- An empty slot, another port's entry, the port's own. -/
theorem witness_EntryDeletionCompletesWithItsChecks :
    (serving (.port .A (.entryDeletion 20)) opened).engine.service =
      some { job := .port .A (.entryDeletion 20), takenAt := 0, draw := 0 } ∧
    0 < max opened.now 1 ∧ opened.slot 20 = none ∧
    (withEntry (entryOf 3 9 .set) opened).slot 20 = some (entryOf 3 9 .set) ∧ (entryOf 3 9 .set).owner = .A ∧
    (entryOf 3 9 .set).owner ≠ .B := by decide +kernel

/-- The jobs in service; a pulse of the entry in slot 20, and one of an entry that has left the table. -/
theorem witness_LineClearAndReleaseRemoveTheLinesEntries :
    0 < max opened.now 1 ∧
    (let s := withEntry (entryOf 3 9 .set) tracking
     s.slot 20 = some (entryOf 3 9 .set) ∧ ((entryOf 3 9 .set).owner = .A ∧ (entryOf 3 9 .set).fields.line = 3) ∧
      ((pulsing 200 s).line 3).pulse.setBy 20 (entryOf 3 9 .set).seq = true ∧
      ((pulsing 199 s).line 3).pulse.setBy 20 (entryOf 3 9 .set).seq = false) ∧
    (serving (.port .A (.lineClear 3)) opened).engine.service =
      some { job := .port .A (.lineClear 3), takenAt := 0, draw := 0 } ∧
    (serving (.port .A (.releaseDeletion 3)) opened).engine.service =
      some { job := .port .A (.releaseDeletion 3), takenAt := 0, draw := 0 } := by decide +kernel

theorem witness_SpentRemovalTakesOnlyItsOwnEntry :
    (let s := serving (.internal (.spentRemoval 20 200)) (withEntry { entryOf 3 9 .set with status := .spent } opened)
     s.engine.service = some { job := .internal (.spentRemoval 20 200), takenAt := 0, draw := 0 } ∧ 0 < max s.now 1 ∧
      s.slot 20 = some { entryOf 3 9 .set with status := .spent }) ∧
    (∀ e, (serving (.internal (.spentRemoval 20 200)) opened).slot 20 = some e →
      ¬(e.seq = 200 ∧ e.status = .spent)) := by
  refine ⟨by decide +kernel, ?_⟩
  intro e h
  have : (none : Option Entry) = some e := by rw [← h]; decide +kernel
  cases this

/-- A queue of plain records, with a LOST record of this count behind them. -/
def queueOf (n : Nat) (lost : List Nat) : List EventRecord :=
  List.replicate n { seq := 0, record := { phase := none, cycle := 0, payload := .hold true } } ++
    lost.map fun c => { seq := 1, record := { phase := none, cycle := 0, payload := .lost c .hold } }

/-- Depths 30, 31 without and with a LOST record, 32 with its count at 255. -/
theorem witness_ArrivalIsStoredOrCountedAsLost :
    (queueOf 30 []).length ≤ 30 ∧ (queueOf 31 []).length = 31 ∧
    ((queueOf 31 []).getLast?.map (·.record.payload.kind)) = some .hold ∧ (queueOf 30 [1]).length = 31 ∧
    ((queueOf 30 [1]).getLast?.map (·.record.payload)) = some (.lost 1 .hold) ∧ (queueOf 31 [255]).length = 32 ∧
    newestIsLost (queueOf 31 [255]) = true := by decide

/-- Nothing delivered, nothing recognised and a delivered transition recognised; a channel that awaits its first sample,
with its sample taken, with no hold, and one tick past its hold; each timer one tick before its limit; a job at the tick
it was taken and a job of another kind; HOLD sampled already, low, and high. -/
theorem witness_EventsThatAreNotDueDoNothing :
    (opened.advanceTo 3).delivered .mark = none ∧ (opened.advanceTo 3).delivered .index = none ∧
    (opened.advanceTo 3).recognised .mark = none ∧
    (State.advanceTo (filtering .low (some 140) 2) 142).recognised .mark = some (.rising, 140) ∧
    (TrackerConfig.Selects (filtering .low (some 140) 2).tracker.config .mark .rising) ∧
    (State.reset.channel .mark).filtered = .awaiting 0 ∧ (State.reset.channel .mark).sampled = some 0 ∧
    (opened.channel .mark).hold = none ∧ 140 + (filtering .low (some 140) 2).tracker.config.filterOf .mark < 143 ∧
    opened.tracker.state ≠ .acquiring ∧ opened.tracker.reference = none ∧ max opened.now 8400611 - 12004 < 8388608 ∧
    opened.tracker.state ≠ .locked ∧ opened.tracker.state ≠ .coasting ∧
    (tracking.tracker.reference = some { time := 0, kind := .genuine } ∧
      max tracking.now 1249 - 0 < tracking.tracker.estimate * (16 + tracking.tracker.config.late) / 16) ∧
    opened.tracker.phase = none ∧
    (∀ id seq expires, Pulse.timeEnd 22 200 1450 = .timeEnd id seq expires → max opened.now 1449 < expires) ∧
    State.reset.hold.sampled = some (max State.reset.now 0) ∧ opened.hold.pin = .high ∧ opened.hold.awaiting = none ∧
    (∀ v p f, (serving (.port .A (.lineClear 3)) opened).engine.service = some v → v.takenAt < max opened.now 1 →
      v.job ≠ .port p (.insertion f)) ∧
    (∀ v p l, (serving (.port .A (.lineClear 3)) opened).engine.service = some v → v.takenAt < max opened.now 0 →
      v.job ≠ .port p (.lineClear l)) ∧
    opened.engine.service = none := by
  refine ⟨by decide, by decide, by decide, by decide, by unfold TrackerConfig.Selects; decide, by decide, by decide,
    by decide, by decide, by decide,
    by decide, by decide, by decide, by decide, by decide, by decide, ?_, by decide, by decide, by decide, ?_, ?_,
    by decide⟩
  · intro id seq expires h
    cases h
    decide
  · intro v p f h _
    cases h
    rintro ⟨⟩
  · intro v p l h h'
    cases h
    exact absurd h' (by decide)

/-! A tracking state with a line in RUN, an entry on it, a waiter, and port B closing with its sweep in service meets
the four invariants, and steps. -/

/-- Port A tracks and owns line 3, for which C waits; B closes. -/
def busy : State :=
  serving (.internal (.sweep .B))
    { withEntry (entryOf 3 1536 .set) tracking with
      lines := tracking.lines.set 3 { lineOf .run with waiting := [waiterOf .C] }
      ports :=
        { a := openPort
          b := { openPort with session := .closing 10 .closed, slot := .working .closeSession 4, reply := .pending 4 1 }
          c := openPort
          d := PortState.atReset } }

theorem witness_EveryStepKeepsTheTrackerInvariant : TrackerInv busy ∧ step busy = .next busy.tick :=
  ⟨{ config := ⟨by decide, by decide, by decide, by decide, by decide, by decide, by decide⟩
     ringSize := by decide
     ringRange := by decide
     estimate := by decide
     position := by intro k h; cases h; decide
     coast := by decide
     missed := by decide
     tracking := fun _ => ⟨by decide, by decide, by decide, 1280, by decide, by decide, by decide⟩
     notTracking := fun h => absurd h (by decide)
     resting := fun h => absurd h (by decide)
     stopped := fun h => absurd h (by decide) }, rfl⟩

theorem witness_EveryStepKeepsTheLinesInvariant : LinesInv busy ∧ step busy = .next busy.tick :=
  ⟨{ unowned := by decide +kernel
     owned := by intro l p; cases p <;> revert l <;> decide +kernel
     quiet := by decide +kernel
     running := by decide +kernel
     asked := by intro l p; cases p <;> revert l <;> decide +kernel
     fewWait := by decide +kernel
     onceEach := by decide +kernel
     notOwner := by decide +kernel }, rfl⟩

theorem witness_EveryStepKeepsThePortsInvariant : PortsInv busy ∧ step busy = .next busy.tick := by
  refine ⟨fun p => ?_, rfl⟩
  have both : ∀ ps : PortState, ps = openPort ∨ ps = PortState.atReset → PortInv ps := by
    rintro _ (rfl | rfl) <;>
      exact ⟨by simp [openPort, PortState.atReset], by decide, by simp [openPort, PortState.atReset], by decide,
        by decide, by decide, by decide, by decide, by decide⟩
  cases p
  · exact both _ (.inl rfl)
  · exact ⟨⟨fun _ => by decide, fun _ => ⟨4, 1, rfl⟩⟩, by decide, ⟨fun _ => .inr ⟨4, rfl⟩, fun _ => ⟨10, .closed, rfl⟩⟩,
      by decide, by decide, by decide, by decide, by decide, by decide⟩
  · exact both _ (.inl rfl)
  · exact both _ (.inr rfl)

theorem witness_EveryStepKeepsTheOwnershipInvariant : OwnershipInv busy ∧ step busy = .next busy.tick := by
  have noJob : ∀ p j, ¬busy.engine.Holds p j := by
    rintro p j (h | ⟨v, h, e⟩)
    · cases p <;> cases h
    · cases h; cases e
  refine ⟨{ entryLine := ?_, lineOwner := ?_, unownedEmpty := ?_, waiterOpen := ?_, holderOpen := ?_, jobLine := ?_,
            jobOpen := ?_, jobSlot := ?_, waitingOpen := ?_, oneJob := ?_, sweepOnce := ?_, busy := ?_ }, rfl⟩
  · intro i e h
    have key : ∀ i, (busy.slot i).all (fun e => decide ((busy.line e.fields.line).owner = some e.owner)) = true := by
      decide +kernel
    have := key i
    rw [h] at this
    simpa using this
  · intro l p; cases p <;> revert l <;> decide +kernel
  · decide +kernel
  · decide +kernel
  · intro p; cases p <;> decide
  · intro p j l h; exact absurd h (noJob p j)
  · intro p j h; exact absurd h (noJob p j)
  · intro p j h; exact absurd h (noJob p j)
  · intro p j h; cases p <;> cases h
  · intro p j v h; cases p <;> cases h
  · intro p; cases p <;> decide +kernel
  · intro h; cases h

theorem witness_SweepFinishesTheTeardown :
    LinesInv busy ∧ PortsInv busy ∧
    busy.engine.service = some { job := .internal (.sweep .B), takenAt := 0, draw := 0 } ∧ 0 < max busy.now 1 ∧
    (busy.port .B).session = .closing 10 .closed :=
  ⟨witness_EveryStepKeepsTheLinesInvariant.1, witness_EveryStepKeepsThePortsInvariant.1, rfl, by decide, rfl⟩

end Sys2Proof.Tests
end

section
/-! Which commands leave the tracker and the walk position alone: every operation outside the tracker's chapters. -/

namespace Sys2Proof.Machine

/-! ### What leaves the tracker and the walk position alone -/

/-- `u` has the tracker and the walk position of `s`, all that the tracker's invariant speaks of. -/
structure State.SameTracking (s u : State) : Prop where
  tracker : u.tracker = s.tracker
  walkPos : u.walkPos = s.walkPos

theorem State.SameTracking.refl (s : State) : s.SameTracking s := ⟨rfl, rfl⟩

theorem State.SameTracking.trans {s u v : State} (h : s.SameTracking u) (h' : u.SameTracking v) : s.SameTracking v :=
  ⟨h'.tracker.trans h.tracker, h'.walkPos.trans h.walkPos⟩

theorem State.SameTracking.ite {c : Prop} [Decidable c] {s u v : State} (h : s.SameTracking u) (h' : s.SameTracking v) :
    s.SameTracking (if c then u else v) := by
  split <;> assumption

theorem State.SameTracking.foldl {α : Type} (f : State → α → State)
    (h : ∀ (s : State) (a : α), s.SameTracking (f s a)) :
    ∀ (l : List α) (s : State), s.SameTracking (l.foldl f s)
  | [], s => .refl s
  | a :: l, s => (h s a).trans (foldl f h l (f s a))

theorem State.takeFrame_sameTracking (s : State) (t : Nat) (p : Port) (act : State → State)
    (hact : ∀ v : State, v.SameTracking (act v)) : s.SameTracking (s.takeFrame t p act) :=
  State.takeFrame_ind (P := s.SameTracking) s t p act ⟨rfl, rfl⟩ ⟨rfl, rfl⟩ fun _ =>
    ⟨(hact (s.onlyFrame t p)).tracker, (hact (s.onlyFrame t p)).walkPos⟩

theorem State.admission_sameTracking {α : Type} (s : State) (p : Port) (tag rsv : Tag) (needs : Needs) (args : Option α)
    (act : α → State → State) (hact : ∀ (a : α) (v : State), v.SameTracking (act a v)) :
    s.SameTracking (s.admission p tag rsv needs args act) :=
  State.admit_ind (P := s.SameTracking) s p tag rsv needs args act (fun _ => ⟨rfl, rfl⟩) fun a _ _ _ _ => hact a s

/-- A request that acts on neither the tracker nor the walk position leaves both, however its checks end. -/
theorem State.request_sameTracking {α : Type} (s : State) (t : Nat) (p : Port) (tag rsv : Tag) (needs : Needs)
    (args : Option α) (act : α → State → State) (hact : ∀ (a : α) (v : State), v.SameTracking (act a v)) :
    s.SameTracking (s.takeFrame t p fun v => v.admission p tag rsv needs args act) :=
  State.takeFrame_sameTracking s t p _ fun v => State.admission_sameTracking v p tag rsv needs args act hact

theorem State.SameTracking.then_setPort {s u : State} {p x} (h : s.SameTracking u) : s.SameTracking (u.setPort p x) :=
  ⟨h.tracker, h.walkPos⟩

theorem State.SameTracking.then_post {s u : State} {dest r} (h : s.SameTracking u) : s.SameTracking (u.post dest r) :=
  ⟨h.tracker, h.walkPos⟩

theorem State.SameTracking.then_finishLong {s u : State} {p r st body} (h : s.SameTracking u) :
    s.SameTracking (u.finishLong p r st body) := by
  rw [State.finishLong_eq]
  exact ⟨h.tracker, h.walkPos⟩

theorem State.SameTracking.then_handOver {s u : State} {l} (h : s.SameTracking u) : s.SameTracking (u.handOver l) := by
  rw [State.handOver_eq]
  exact ⟨h.tracker, h.walkPos⟩

theorem State.SameTracking.then_endPulseOf {s u : State} {id e} (h : s.SameTracking u) :
    s.SameTracking (u.endPulseOf id e) :=
  .ite ⟨h.tracker, h.walkPos⟩ h

theorem State.SameTracking.then_postUnordered {s u : State} {p rs} (h : s.SameTracking u) :
    s.SameTracking (u.postUnordered p rs) := by
  rw [State.postUnordered_eq]
  exact ⟨h.tracker, h.walkPos⟩

theorem State.SameTracking.then_setChannel {s u : State} {ch c} (h : s.SameTracking u) :
    s.SameTracking (u.setChannel ch c) := by
  cases ch <;> exact ⟨h.tracker, h.walkPos⟩

theorem State.SameTracking.then_completeJob {s u : State} {effect : State → State} (h : s.SameTracking u)
    (he : ∀ v : State, v.SameTracking (effect v)) : s.SameTracking (u.completeJob effect) :=
  ⟨(he _).tracker.trans h.tracker, (he _).walkPos.trans h.walkPos⟩

theorem State.insert_sameTracking (s : State) (p : Port) (f : EntryFields) : s.SameTracking (s.insert p f) := by
  unfold State.insert
  split
  · exact (State.SameTracking.refl s).then_finishLong
  · split
    · exact (State.SameTracking.refl s).then_finishLong
    · exact State.SameTracking.then_finishLong ⟨rfl, rfl⟩

theorem State.deleteEntry_sameTracking (s : State) (p : Port) (id : EntryId) :
    s.SameTracking (s.deleteEntry p id) := by
  unfold State.deleteEntry
  split
  · exact (State.SameTracking.refl s).then_finishLong
  · split
    · exact .then_finishLong (.then_endPulseOf ⟨rfl, rfl⟩)
    · exact (State.SameTracking.refl s).then_finishLong

theorem State.clearLine_sameTracking (s : State) (p : Port) (l : Line) : s.SameTracking (s.clearLine p l) :=
  .then_finishLong (.ite ⟨rfl, rfl⟩ ⟨rfl, rfl⟩)

theorem State.releaseLine_sameTracking (s : State) (p : Port) (l : Line) : s.SameTracking (s.releaseLine p l) :=
  .then_finishLong (.then_handOver ⟨rfl, rfl⟩)

theorem State.finishTeardown_sameTracking (s : State) (p : Port) : s.SameTracking (s.finishTeardown p) := by
  have hlines := State.SameTracking.foldl State.handOver (fun u _ => (State.SameTracking.refl u).then_handOver)
    (s.ownedLines p) s
  unfold State.finishTeardown
  split
  · exact .then_setPort (.then_post (.then_setPort hlines))
  · exact .refl s

theorem State.sweep_sameTracking (s : State) (p : Port) : s.SameTracking (s.sweep p) :=
  .trans (u := s.removeEntries fun e => decide (e.owner = p)) ⟨rfl, rfl⟩
    (State.finishTeardown_sameTracking (s.removeEntries fun e => decide (e.owner = p)) p)

theorem State.removeSpent_sameTracking (s : State) (id : EntryId) (seq : Count32) :
    s.SameTracking (s.removeSpent id seq) := by
  unfold State.removeSpent
  split
  · exact .ite ⟨rfl, rfl⟩ (.refl s)
  · exact .refl s

@[simp] theorem State.setChannel_tracker (s : State) (ch : Channel) (c : ChannelState) :
    (s.setChannel ch c).tracker = s.tracker := by cases ch <;> rfl

@[simp] theorem State.setChannel_now (s : State) (ch : Channel) (c : ChannelState) :
    (s.setChannel ch c).now = s.now := by cases ch <;> rfl

@[simp] theorem State.setChannel_ports (s : State) (ch : Channel) (c : ChannelState) :
    (s.setChannel ch c).ports = s.ports := by cases ch <;> rfl

@[simp] theorem State.completeHold_tracker (s : State) (ch : Channel) : (s.completeHold ch).tracker = s.tracker :=
  State.setChannel_tracker ..

@[simp] theorem State.completeHold_now (s : State) (ch : Channel) : (s.completeHold ch).now = s.now :=
  State.setChannel_now ..

@[simp] theorem State.completeHold_ports (s : State) (ch : Channel) : (s.completeHold ch).ports = s.ports :=
  State.setChannel_ports ..


/-- The commands that can change the tracker or the walk position: those of the two channels and of the tracker's own
requests and timers. -/
def concernsTracker : Instr → Bool
  | .reset .. | .setTracker .. | .startTracker .. | .stopTracker .. | .mark .. | .indexEdge .. | .noMarkLimit ..
  | .lateTimeout .. | .phaseRise .. | .conditionerHoldBegins .. => true
  | _ => false

/-- Every other command leaves the tracker and the walk position as they are. -/
theorem exec_sameTracking (i : Instr) (s u : State) (hi : concernsTracker i = false) (h : exec i s = .next u) :
    s.SameTracking u := by
  cases i with
  | reset | setTracker | startTracker | stopTracker | mark | indexEdge | noMarkLimit | lateTimeout | phaseRise
  | conditionerHoldBegins => cases hi
  | transactionStart t p =>
    cases h
    split <;> exact ⟨rfl, rfl⟩
  | frameError t p bytes =>
    cases h
    split <;> exact ⟨rfl, rfl⟩
  | nop t p =>
    cases h
    exact State.takeFrame_sameTracking s t p id .refl
  | unknownRequestCode t p tag rsv code body =>
    cases h
    exact State.takeFrame_sameTracking s t p _ fun _ => ⟨rfl, rfl⟩
  | openSession t p tag rsv body =>
    cases h
    exact State.request_sameTracking s t p _ _ _ _ _ fun _ _ => .ite ⟨rfl, rfl⟩ ⟨rfl, rfl⟩
  | closeSession t p tag rsv body =>
    cases h
    refine State.request_sameTracking s t p _ _ _ _ _ fun _ v => ?_
    unfold State.closeSession
    rw [State.beginTeardown_eq]
    exact ⟨rfl, rfl⟩
  | requestGrant t p tag rsv body =>
    cases h
    refine State.request_sameTracking s t p _ _ _ _ _ fun _ v => ?_
    split <;> exact ⟨rfl, rfl⟩
  | releaseGrant t p tag rsv body =>
    cases h
    exact State.request_sameTracking s t p _ _ _ _ _ fun _ _ => .ite ⟨rfl, rfl⟩ ⟨rfl, rfl⟩
  | releaseLine t p tag rsv body =>
    cases h
    exact State.request_sameTracking s t p _ _ _ _ _ fun _ _ => .ite ⟨rfl, rfl⟩ (.ite ⟨rfl, rfl⟩ ⟨rfl, rfl⟩)
  | setLineMode t p tag rsv body =>
    cases h
    exact State.request_sameTracking s t p _ _ _ _ _ fun _ _ => .ite ⟨rfl, rfl⟩ ⟨rfl, rfl⟩
  | insertEntry t p tag rsv body =>
    cases h
    exact State.request_sameTracking s t p _ _ _ _ _ fun _ _ => .ite ⟨rfl, rfl⟩ ⟨rfl, rfl⟩
  | clearLineEntries t p tag rsv body =>
    cases h
    exact State.request_sameTracking s t p _ _ _ _ _ fun _ _ => .ite ⟨rfl, rfl⟩ ⟨rfl, rfl⟩
  | readEntry t p tag rsv body =>
    cases h
    refine State.request_sameTracking s t p _ _ _ _ _ fun _ v => ?_
    split
    · exact ⟨rfl, rfl⟩
    · exact .ite ⟨rfl, rfl⟩ ⟨rfl, rfl⟩
  | readSession t p tag rsv body | setQuota t p tag rsv body | readTracker t p tag rsv body
  | readHistory t p tag rsv body | claimLine t p tag rsv body | readLines t p tag rsv body
  | deleteEntry t p tag rsv body | listEntries t p tag rsv body | readEvents t p tag rsv body
  | setEventMask t p tag rsv body | setAttention t p tag rsv body | ackAttention t p tag rsv body =>
    cases h
    exact State.request_sameTracking s t p _ _ _ _ _ fun _ _ => ⟨rfl, rfl⟩
  | unselectedTransition t ch =>
    cases h
    split
    · exact .ite ⟨rfl, rfl⟩ (.then_setChannel ⟨rfl, rfl⟩)
    · exact ⟨rfl, rfl⟩
  | conditionerHoldAbandoned t ch =>
    cases h
    exact .then_setChannel ⟨rfl, rfl⟩
  | pulseTimerExpiry t l =>
    cases h
    exact .ite ⟨rfl, rfl⟩ ⟨rfl, rfl⟩
  | holdAssertion t =>
    cases h
    split <;> exact ⟨rfl, rfl⟩
  | holdDeassertion t =>
    cases h
    split <;> exact ⟨rfl, rfl⟩
  | silenceExpiry t p =>
    cases h
    refine .ite ?_ ⟨rfl, rfl⟩
    unfold State.silenceTeardown
    rw [State.beginTeardown_eq]
    exact ⟨rfl, rfl⟩
  | insertionCompletes t =>
    cases h
    split
    · exact .then_completeJob ⟨rfl, rfl⟩ fun v => v.insert_sameTracking _ _
    · exact ⟨rfl, rfl⟩
  | entryDeletionCompletes t =>
    cases h
    split
    · exact .then_completeJob ⟨rfl, rfl⟩ fun v => v.deleteEntry_sameTracking _ _
    · exact ⟨rfl, rfl⟩
  | lineClearCompletes t =>
    cases h
    split
    · exact .then_completeJob ⟨rfl, rfl⟩ fun v => v.clearLine_sameTracking _ _
    · exact ⟨rfl, rfl⟩
  | releaseDeletionCompletes t =>
    cases h
    split
    · exact .then_completeJob ⟨rfl, rfl⟩ fun v => v.releaseLine_sameTracking _ _
    · exact ⟨rfl, rfl⟩
  | teardownSweepCompletes t =>
    cases h
    split
    · exact .then_completeJob ⟨rfl, rfl⟩ fun v => v.sweep_sameTracking _
    · exact ⟨rfl, rfl⟩
  | spentRemovalCompletes t =>
    cases h
    split
    · exact .then_completeJob ⟨rfl, rfl⟩ fun v => v.removeSpent_sameTracking _ _
    · exact ⟨rfl, rfl⟩

end Sys2Proof.Machine
end

section
/-! The tracker's parts: what a mark in ACQUIRING makes of it, the part of its invariant that does not depend on the
state, and the invariant of each state from its parts. -/

namespace Sys2Proof.Machine

/-! ### A mark in ACQUIRING -/

/-- A mark taken in ACQUIRING leaves the ring, enters its interval, or clears the ring, and then sets the reference, the
position and the flags (R10, R21). -/
theorem Tracker.acquired_cases (t : Tracker) (n : Nat) :
    ∃ m : Tracker,
      (m = t ∨ (∃ d, (1 ≤ d ∧ d ≤ 8388607) ∧ m = t.withInterval d) ∨ m = { t with ring := [], estimate := 0 }) ∧
      t.acquired n =
        { m with
          reference := some { time := n, kind := .genuine }
          markPos := t.positionTaken
          indexPending := false
          indexSeen := if t.positionTaken = some 0 then false else t.indexSeen } := by
  unfold Tracker.acquired
  cases t.reference with
  | none => exact ⟨t, .inl rfl, rfl⟩
  | some r =>
    dsimp only
    by_cases hzero : n - r.time = 0
    · rw [if_pos hzero]
      exact ⟨t, .inl rfl, rfl⟩
    · rw [if_neg hzero]
      by_cases hrange : n - r.time ≤ 8388607
      · rw [if_pos hrange]
        exact ⟨_, .inr (.inl ⟨n - r.time, ⟨Nat.one_le_iff_ne_zero.2 hzero, hrange⟩, rfl⟩), rfl⟩
      · rw [if_neg hrange]
        exact ⟨_, .inr (.inr rfl), rfl⟩

/-- What `Tracker.acquired` leaves of the tracker: all but the ring, E, the reference, the position and the flags. -/
theorem Tracker.acquired_frame (t : Tracker) (n : Nat) :
    (t.acquired n).config = t.config ∧ (t.acquired n).state = t.state ∧ (t.acquired n).cycle = t.cycle ∧
      (t.acquired n).phase = t.phase := by
  obtain ⟨m, hm, heq⟩ := t.acquired_cases n
  rw [heq]
  obtain rfl | ⟨d, -, rfl⟩ | rfl := hm <;> exact ⟨rfl, rfl, rfl, rfl⟩

@[simp] theorem Tracker.acquired_config (t : Tracker) (n : Nat) : (t.acquired n).config = t.config :=
  (t.acquired_frame n).1

@[simp] theorem Tracker.acquired_cycle (t : Tracker) (n : Nat) : (t.acquired n).cycle = t.cycle :=
  (t.acquired_frame n).2.2.1

@[simp] theorem Tracker.acquired_state (t : Tracker) (n : Nat) : (t.acquired n).state = t.state :=
  (t.acquired_frame n).2.1

@[simp] theorem Tracker.acquired_phase (t : Tracker) (n : Nat) : (t.acquired n).phase = t.phase :=
  (t.acquired_frame n).2.2.2

@[simp] theorem Tracker.acquired_reference (t : Tracker) (n : Nat) :
    (t.acquired n).reference = some { time := n, kind := .genuine } := rfl

@[simp] theorem Tracker.acquired_markPos (t : Tracker) (n : Nat) : (t.acquired n).markPos = t.positionTaken := rfl

theorem Tracker.lockReady_eq_true (t : Tracker) :
    t.lockReady = true ↔ t.config.avgDepth ≤ t.ring.length ∧ t.markPos.isSome = true := by
  simp [Tracker.lockReady]

/-- A mark that does not complete acquisition is only taken (R10, R21). -/
theorem State.acquireMark_of_not_ready (s : State) (n : Nat)
    (h : ¬(s.tracker.config.avgDepth ≤ (s.tracker.acquired n).ring.length ∧ s.tracker.positionTaken.isSome = true)) :
    s.acquireMark n = { s with tracker := s.tracker.acquired n } := by
  have hready : (s.tracker.acquired n).lockReady ≠ true := by
    rw [ne_eq, Tracker.lockReady_eq_true]
    simpa using h
  simp only [State.acquireMark, Tracker.acquire_eq, State.setTracker_tracker, if_neg hready]
  rfl

/-- A mark that completes acquisition locks (R23, R29, R31, R70). -/
theorem State.acquireMark_of_ready (s : State) (n k : Nat)
    (hring : s.tracker.config.avgDepth ≤ (s.tracker.acquired n).ring.length) (hpos : s.tracker.positionTaken = some k) :
    s.acquireMark n =
      (let ph := phaseFormula s.tracker.config.marks (s.tracker.acquired n).estimate k (s.now - n)
       { s with
         tracker := { s.tracker.acquired n with state := .locked, coast := 0, phase := some ph }
         walkPos := .reached ph
         ports := s.ports.mapPort fun _ ps =>
          if ps.isOpen && ps.mask.state then
            ps.arrive { phase := some ph, cycle := s.tracker.cycle, payload := .state .acquiring .locked .lock }
          else ps }) := by
  have hready : (s.tracker.acquired n).lockReady = true := by
    rw [Tracker.lockReady_eq_true]
    simpa [hpos] using hring
  have hphase : (s.tracker.acquired n).phaseAt s.now =
      phaseFormula s.tracker.config.marks (s.tracker.acquired n).estimate k (s.now - n) := by
    rw [Tracker.phaseAt_eq _ _ k s.now (s.tracker.acquired_reference n) hpos, Tracker.acquired_config]
  simp only [State.acquireMark, Tracker.acquire_eq, State.setTracker_tracker, if_pos hready, State.lock,
    State.postState_eq, State.setTracker_now, hphase, Tracker.acquired_cycle]
  rfl

/-! ### What every tracker keeps -/

/-- The part of the tracker's invariant that does not depend on the state: a legal record, a ring of at most 8 genuine
intervals with E their mean, and the position, the coast count and the missed count within their limits. -/
structure Tracker.Sound (t : Tracker) : Prop where
  config : t.config.Legal
  ringSize : t.ring.length ≤ 8
  ringRange : ∀ d ∈ t.ring, 1 ≤ d ∧ d ≤ 8388607
  estimate : t.estimate = floorMean (newestOf t.config.avgDepth t.ring)
  position : ∀ k, t.markPos = some k → k < t.config.marks
  coast : t.coast ≤ t.config.coastLimit
  missed : t.missed ≤ 2

theorem TrackerInv.sound {s : State} (h : TrackerInv s) : s.tracker.Sound :=
  ⟨h.config, h.ringSize, h.ringRange, h.estimate, h.position, h.coast, h.missed⟩

theorem TrackerConfig.Legal.marks_pos {c : TrackerConfig} (h : c.Legal) : 0 < c.marks := by
  have hm := h.marks
  simp only [List.mem_cons, List.not_mem_nil, or_false] at hm
  omega

theorem floorMean_newestOf_nil (d : Nat) : floorMean (newestOf d []) = 0 := by
  simp [newestOf, floorMean]

/-- A sound tracker in LOCKED or COASTING with the valid phase `ph` (R23, R29, R31). -/
structure Tracker.Phased (t : Tracker) (ph : Nat) : Prop extends t.Sound where
  tracks : t.state.tracks = true
  ringFull : t.config.avgDepth ≤ t.ring.length
  referenced : t.reference.isSome = true
  positioned : t.markPos.isSome = true
  phase : t.phase = some ph
  phase_le : ph ≤ 4095

/-- The invariant from its parts, in LOCKED and COASTING. -/
theorem TrackerInv.of_phased {s : State} {ph : Nat} (h : s.tracker.Phased ph) (hwalk : s.walkPos = .reached ph) :
    TrackerInv s :=
  { h.toSound with
    tracking := fun _ => ⟨h.ringFull, h.referenced, h.positioned, ph, h.phase, h.phase_le, hwalk⟩
    notTracking := fun hn => absurd (h.tracks.symm.trans hn) (by decide)
    resting := fun hr => by
      have htracks := h.tracks
      rcases hr with hr | hr <;> rw [hr] at htracks <;> cases htracks
    stopped := fun hr => by
      have htracks := h.tracks
      rw [hr] at htracks
      cases htracks }

/-- What the invariant says in LOCKED and COASTING. -/
theorem TrackerInv.phased {s : State} (h : TrackerInv s) (htracks : s.tracker.state.tracks = true) :
    ∃ ph, s.tracker.Phased ph ∧ s.walkPos = .reached ph := by
  obtain ⟨hring, href, hpos, ph, hphase, hle, hwalk⟩ := h.tracking htracks
  exact ⟨ph, ⟨h.sound, htracks, hring, href, hpos, hphase, hle⟩, hwalk⟩

/-- The invariant from its parts, in ACQUIRING. -/
theorem TrackerInv.of_acquiring {s : State} (hs : s.tracker.Sound) (hstate : s.tracker.state = .acquiring)
    (hphase : s.tracker.phase = none) (hwalk : s.walkPos = .none) : TrackerInv s :=
  { hs with
    tracking := fun h => by rw [hstate] at h; cases h
    notTracking := fun _ => ⟨hphase, hwalk⟩
    resting := fun h => by simp [hstate] at h
    stopped := fun h => by simp [hstate] at h }

/-- The invariant from its parts, in STOPPED and LOST. -/
theorem TrackerInv.of_resting {s : State} (hs : s.tracker.Sound)
    (hstate : s.tracker.state = .stopped ∧ s.tracker.coast = 0 ∨ s.tracker.state = .lost)
    (hring : s.tracker.ring = []) (href : s.tracker.reference = none) (hpos : s.tracker.markPos = none)
    (hphase : s.tracker.phase = none) (hwalk : s.walkPos = .none) : TrackerInv s :=
  { hs with
    tracking := fun h => by rcases hstate with ⟨h', -⟩ | h' <;> rw [h'] at h <;> cases h
    notTracking := fun _ => ⟨hphase, hwalk⟩
    resting := fun _ => ⟨hring, href, hpos⟩
    stopped := fun h => by
      rcases hstate with ⟨-, h'⟩ | h'
      · exact h'
      · simp [h'] at h }

/-- The invariant speaks of the tracker and the walk position alone. -/
theorem TrackerInv.of_sameTracking {s u : State} (h : TrackerInv s) (hu : s.SameTracking u) : TrackerInv u := by
  have hsound : u.tracker.Sound := hu.tracker ▸ h.sound
  refine { hsound with tracking := ?_, notTracking := ?_, resting := ?_, stopped := ?_ } <;> rw [hu.tracker]
  · rw [hu.walkPos]
    exact h.tracking
  · rw [hu.walkPos]
    exact h.notTracking
  · exact h.resting
  · exact h.stopped

/-! ### What the ring takes -/

theorem Tracker.Sound.withInterval {t : Tracker} (h : t.Sound) {d : Nat} (hd : 1 ≤ d ∧ d ≤ 8388607) :
    (t.withInterval d).Sound :=
  { h with
    ringSize := (length_newestOf 8 _).trans_le (Nat.min_le_left ..)
    ringRange := fun x hx => by
      rcases List.mem_append.1 (mem_of_mem_newestOf hx) with hx | hx
      · exact h.ringRange x hx
      · rw [List.mem_singleton.1 hx]
        exact hd
    estimate := rfl }

theorem Tracker.withInterval_ring_length {t : Tracker} (h : t.ring.length ≤ 8) (d : Nat) :
    t.ring.length ≤ (t.withInterval d).ring.length := by
  simp only [Tracker.withInterval, length_newestOf, List.length_append, List.length_singleton]
  omega

/-- A mark taken in ACQUIRING is given a position below M. -/
theorem Tracker.positionTaken_lt {t : Tracker} (hm : 0 < t.config.marks) (k : Nat) (h : t.positionTaken = some k) :
    k < t.config.marks := by
  unfold Tracker.positionTaken at h
  split at h
  · cases h; exact hm
  · cases h; exact hm
  · cases h
  · split at h <;> cases h
    · assumption
    · exact hm

/-- A cleared ring has the mean 0. -/
theorem Tracker.Sound.clearRing {t : Tracker} (h : t.Sound) : Tracker.Sound { t with ring := [], estimate := 0 } :=
  { h with
    ringSize := Nat.zero_le 8
    ringRange := fun _ hd => absurd hd List.not_mem_nil
    estimate := (floorMean_newestOf_nil _).symm }

theorem Tracker.Sound.acquired {t : Tracker} (h : t.Sound) (n : Nat) : (t.acquired n).Sound := by
  have hpos := Tracker.positionTaken_lt h.config.marks_pos
  obtain ⟨m, hm, heq⟩ := t.acquired_cases n
  rw [heq]
  obtain rfl | ⟨d, hd, rfl⟩ | rfl := hm
  · exact { h with position := hpos }
  · exact { h.withInterval hd with position := hpos }
  · exact { h.clearRing with position := hpos }

theorem Tracker.Sound.accepted {t : Tracker} (h : t.Sound) (r : Reference) (n : Nat) : (t.accepted r n).Sound := by
  unfold Tracker.accepted
  dsimp only
  split_ifs with hgenuine
  · exact { h.withInterval hgenuine.2 with coast := Nat.zero_le _ }
  · exact { h with coast := Nat.zero_le _ }

theorem Tracker.accepted_ring_length {t : Tracker} (h : t.ring.length ≤ 8) (r : Reference) (n : Nat) :
    t.ring.length ≤ (t.accepted r n).ring.length := by
  unfold Tracker.accepted
  dsimp only
  split_ifs
  · exact Tracker.withInterval_ring_length h _
  · exact le_rfl

@[simp] theorem Tracker.accepted_config (t : Tracker) (r : Reference) (n : Nat) :
    (t.accepted r n).config = t.config := by
  unfold Tracker.accepted
  dsimp only
  split_ifs <;> rfl

/-- Every clearing of the tracker leaves it sound. -/
theorem Tracker.Sound.cleared {t : Tracker} (h : t.Sound) (st : TrackerState) : (t.cleared st).Sound :=
  { h.clearRing with position := fun _ hk => nomatch hk }

end Sys2Proof.Machine
end

section
/-! The configuration record of Table 9-5, read from its bytes and written to them. -/

namespace Sys2Proof.Machine

/-! ### The configuration record on the wire -/

theorem inRange_eq_some (lo hi n m : Nat) : inRange lo hi n = some m ↔ (lo ≤ n ∧ n ≤ hi) ∧ n = m := by
  simp [inRange]

/-- SET_TRACKER accepts legal records only (R5, R18). -/
theorem TrackerConfig.legal_of_parse {body : List Byte} {c : TrackerConfig} (h : parseTrackerConfig body = some c) :
    c.Legal := by
  unfold parseTrackerConfig at h
  split at h
  case h_2 => cases h
  case h_1 m depth early late coast policy auto use markEdge markFilter indexEdge indexFilter =>
    by_cases hmarks : m.toNat ∈ [1, 2, 4, 8, 16, 32, 64]
    case neg => rw [if_neg hmarks] at h; cases h
    by_cases hdepth : depth.toNat ∈ [1, 2, 4, 8]
    case neg =>
      simp only [if_pos hmarks, if_neg hdepth, Option.bind_eq_bind, Option.bind_some, Option.bind_none,
        reduceCtorEq] at h
    simp only [if_pos hmarks, if_pos hdepth, Option.bind_eq_bind, Option.bind_some, Option.bind_eq_some_iff,
      Option.some.injEq, inRange_eq_some] at h
    obtain ⟨_, ⟨hearly, rfl⟩, _, ⟨hlate, rfl⟩, _, ⟨hcoast, rfl⟩, _, -, _, -, _, -, _, -, _, -, rfl⟩ := h
    exact ⟨hmarks, hdepth, hearly, hlate, hcoast.2, Nat.le_of_lt_succ markFilter.isLt,
      Nat.le_of_lt_succ indexFilter.isLt⟩

/-- A number up to 255 is read back from its byte. -/
theorem toNat_ofNat_byte {n : Nat} (h : n ≤ 255) : (BitVec.ofNat 8 n).toNat = n :=
  BitVec.toNat_ofNat n 8 ▸ Nat.mod_eq_of_lt (by omega)

@[simp] theorem parseFlag_flagByte (b : Bool) : parseFlag (flagByte b) = some b := by cases b <;> rfl

@[simp] theorem parseSlipPolicy_code (x : SlipPolicy) :
    parseSlipPolicy (BitVec.ofNat 8 (slipPolicyCode x)) = some x := by
  cases x <;> rfl

@[simp] theorem parseEdge_code (e : Edge) : parseEdge (BitVec.ofNat 8 (edgeCode e)).toNat = some e := by
  cases e <;> rfl

/-- The bytes of Table 9-5 for a legal record are read back as that record. -/
theorem TrackerConfig.parse_bytes {c : TrackerConfig} (h : c.Legal) : parseTrackerConfig c.bytes = some c := by
  have hmarks := h.marks
  have hdepth := h.avgDepth
  have hearly := h.early
  have hlate := h.late
  have hcoast := h.coastLimit
  have hmarks_le : c.marks ≤ 255 := by
    simp only [List.mem_cons, List.not_mem_nil, or_false] at hmarks
    omega
  have hdepth_le : c.avgDepth ≤ 255 := by
    simp only [List.mem_cons, List.not_mem_nil, or_false] at hdepth
    omega
  simp only [TrackerConfig.bytes, parseTrackerConfig, toNat_ofNat_byte hmarks_le, toNat_ofNat_byte hdepth_le,
    toNat_ofNat_byte (show c.early ≤ 255 by omega), toNat_ofNat_byte (show c.late ≤ 255 by omega),
    toNat_ofNat_byte (show c.coastLimit ≤ 255 by omega), toNat_ofNat_byte h.markFilter, toNat_ofNat_byte h.indexFilter,
    if_pos hmarks, if_pos hdepth, (inRange_eq_some _ _ _ _).2 ⟨hearly, rfl⟩, (inRange_eq_some _ _ _ _).2 ⟨hlate, rfl⟩,
    (inRange_eq_some _ _ _ _).2 ⟨⟨Nat.zero_le _, hcoast⟩, rfl⟩, parseFlag_flagByte, parseSlipPolicy_code,
    parseEdge_code, Option.bind_eq_bind, Option.bind_some]

end Sys2Proof.Machine
end

section
/-! What every event and request of the tracker makes of its invariant, and the invariant along every step. -/

namespace Sys2Proof.Machine

/-! ### The phase and the walker -/

/-- The phase of R29 is a phase count. -/
theorem Tracker.Sound.phaseAt_le {t : Tracker} (h : t.Sound) (href : t.reference.isSome = true)
    (hpos : t.markPos.isSome = true) (now : Nat) : t.phaseAt now ≤ 4095 := by
  obtain ⟨r, hr⟩ := Option.isSome_iff_exists.1 href
  obtain ⟨k, hk⟩ := Option.isSome_iff_exists.1 hpos
  rw [t.phaseAt_eq r k now hr hk]
  exact (phaseFormula_bounds _ _ _ _ h.config.marks (h.position k hk)).2.2

/-- A tracker that is given the phase of R29. -/
theorem Tracker.Sound.phased {t : Tracker} (h : t.Sound) (htracks : t.state.tracks = true)
    (hring : t.config.avgDepth ≤ t.ring.length) (href : t.reference.isSome = true) (hpos : t.markPos.isSome = true)
    (now : Nat) : Tracker.Phased { t with phase := some (t.phaseAt now) } (t.phaseAt now) :=
  { h with
    tracks := htracks, ringFull := hring, referenced := href, positioned := hpos, phase := rfl
    phase_le := h.phaseAt_le href hpos now }

/-- An advance to the tracker's phase leaves the walker at it; records posted before it change nothing of this. -/
theorem State.advanceWalk_trackerInv {s u : State} {ph lo : Nat} (cycle : Count32) (h : s.tracker.Phased ph)
    (hwalk : s.walkPos.next = some lo) (hu : s.SameTracking u) : TrackerInv (u.advanceWalk cycle ph) := by
  refine .of_phased (ph := ph) ?_ (u.advanceWalk_walkPos cycle ph lo (hu.walkPos ▸ hwalk))
  rwa [(u.advanceWalk_same cycle ph).tracker, hu.tracker]

/-- Above a walk position reached, the walker takes the next phase first. -/
theorem State.walkPos_next {s : State} {ph : Nat} (h : s.walkPos = .reached ph) : s.walkPos.next = some (ph + 1) := by
  rw [h]
  rfl

theorem State.takeBoundary_tracker (s : State) (period : Nat) (cycle : Count32) (phase : Nat)
    (slip : Option (Nat × Nat)) : (s.takeBoundary period cycle phase slip).tracker = s.tracker := by
  refine (State.SameTracking.foldl _ (fun u _ => (State.SameTracking.refl u).then_postUnordered) _ _).tracker.trans ?_
  split <;> rfl

theorem State.takeBoundary_walkPos (s : State) (period : Nat) (cycle : Count32) (phase : Nat)
    (slip : Option (Nat × Nat)) : (s.takeBoundary period cycle phase slip).walkPos = .before0 :=
  (State.SameTracking.foldl _ (fun u _ => (State.SameTracking.refl u).then_postUnordered) _ _).walkPos

/-! ### Accepted and substituted marks -/

theorem Tracker.nextPosition_lt {t : Tracker} (hm : 0 < t.config.marks) : t.nextPosition < t.config.marks := by
  unfold Tracker.nextPosition
  split
  · split <;> assumption
  · exact hm

/-- What the position of a mark can come to; the missed count of a wrap is kept or at most 1 (R35 to R38). -/
theorem Tracker.advance_cases (t : Tracker) :
    t.advance = .plain t.nextPosition ∨ t.advance = .reported t.nextPosition ∨ t.advance = .aligned t.nextPosition ∨
      (∃ m b, t.advance = .wrapped m b ∧ (m = t.missed ∨ m ≤ 1)) ∨ t.advance = .lost := by
  unfold Tracker.advance
  by_cases hwrap : t.nextPosition = 0
  · rw [if_pos hwrap]
    split_ifs
    · exact .inr (.inr (.inr (.inl ⟨_, _, rfl, .inl rfl⟩)))
    · exact .inr (.inr (.inr (.inl ⟨_, _, rfl, .inr (Nat.zero_le 1)⟩)))
    · exact .inr (.inr (.inr (.inl ⟨_, _, rfl, .inr le_rfl⟩)))
    · exact .inr (.inr (.inr (.inr rfl)))
  · rw [if_neg hwrap]
    split
    · cases t.config.slipPolicy
      · exact .inr (.inr (.inl rfl))
      · exact .inr (.inl rfl)
    · exact .inl rfl

theorem State.SameTracking.then_postChange {s u : State} {old new cause} (h : s.SameTracking u) :
    s.SameTracking (u.postChange old new cause) :=
  .ite h ⟨h.tracker, h.walkPos⟩

theorem State.SameTracking.then_cutPulses {s u : State} {cycle} (h : s.SameTracking u) :
    s.SameTracking (u.cutPulses cycle) :=
  ⟨h.tracker, h.walkPos⟩

/-- Entry to LOST (R40). -/
theorem State.loseTracking_trackerInv {s : State} (h : s.tracker.Sound) (cause : StateCause) :
    TrackerInv (s.loseTracking cause) := by
  rw [State.loseTracking_eq]
  exact .of_resting (h.cleared .lost) (.inr rfl) rfl rfl rfl rfl rfl

section
variable {s : State} {new : TrackerState} {lo : Nat}

theorem State.stepPosition_trackerInv (h : s.tracker.Sound) (hring : s.tracker.config.avgDepth ≤ s.tracker.ring.length)
    (href : s.tracker.reference.isSome = true) (hwalk : s.walkPos.next = some lo) (hnew : new.tracks = true)
    (cause : StateCause) {pos : Nat} (hpos : pos < s.tracker.config.marks) (slip : Option Nat) :
    TrackerInv (s.stepPosition new cause pos slip) := by
  have hphased := Tracker.Sound.phased
    (t := { s.tracker with state := new, markPos := some pos, indexPending := false })
    { h with position := fun k hk => Option.some.inj hk ▸ hpos } hnew hring href rfl s.now
  refine State.advanceWalk_trackerInv (s := s.setTracker _) _ hphased hwalk ?_
  cases slip with
  | none => exact .then_postChange (.refl _)
  | some k => exact .then_post (.then_postChange (.refl _))

/-- The part after a boundary: the walker starts below phase 0 of the new cycle and takes one advance to its phase. -/
theorem State.takeBoundary_advanceWalk_trackerInv {s u : State} {ph : Nat} (period : Nat) (cycle : Count32)
    (slip : Option (Nat × Nat)) (h : s.tracker.Phased ph) (hu : u.tracker = s.tracker) :
    TrackerInv ((u.takeBoundary period cycle ph slip).advanceWalk cycle ph) :=
  State.advanceWalk_trackerInv (lo := 0) cycle (by rwa [State.takeBoundary_tracker, hu])
    (by rw [State.takeBoundary_walkPos]; rfl) (.refl _)

theorem State.stepBoundary_trackerInv (h : s.tracker.Sound) (hring : s.tracker.config.avgDepth ≤ s.tracker.ring.length)
    (href : s.tracker.reference.isSome = true) (hnew : new.tracks = true) (cause : StateCause) {missed : Nat}
    (hmissed : missed ≤ 2) (report : Bool) (align : Option Nat) :
    TrackerInv (s.stepBoundary new cause missed report align) := by
  have hphased := Tracker.Sound.phased
    (t := { s.tracker with state := new, markPos := some 0, indexPending := false, indexSeen := false,
                           missed := missed, cycle := s.tracker.cycle + 1 })
    { h with position := fun k hk => Option.some.inj hk ▸ h.config.marks_pos, missed := hmissed } hnew hring href rfl
    s.now
  cases align with
  | none =>
    refine State.takeBoundary_advanceWalk_trackerInv (s := s.setTracker _) _ _ _ hphased
      ((State.advanceWalk_same _ _ _).tracker.trans (State.SameTracking.tracker ?_))
    exact .ite (.then_post (.then_postChange (.refl _))) (.then_postChange (.refl _))
  | some k =>
    refine State.takeBoundary_advanceWalk_trackerInv (s := s.setTracker _) _ _ _ hphased (State.SameTracking.tracker ?_)
    exact .then_cutPulses (.ite (.then_post (.then_postChange (.refl _))) (.then_postChange (.refl _)))

/-- A losing wrap (R38). -/
theorem State.stepLost_trackerInv (h : s.tracker.Sound) : TrackerInv s.stepLost := by
  have hmissed : Tracker.Sound { s.tracker with missed := 2, indexPending := false } := { h with missed := le_rfl }
  exact State.loseTracking_trackerInv hmissed .index

/-- The steps from the position on keep the invariant of a tracker that holds its ring, reference and walk position. -/
theorem State.stepMark_trackerInv (h : s.tracker.Sound) (hring : s.tracker.config.avgDepth ≤ s.tracker.ring.length)
    (href : s.tracker.reference.isSome = true) (hwalk : s.walkPos.next = some lo) (hnew : new.tracks = true)
    (cause : StateCause) : TrackerInv (s.stepMark new cause) := by
  have hpos := s.tracker.nextPosition_lt h.config.marks_pos
  unfold State.stepMark
  obtain hadv | hadv | hadv | ⟨m, b, hadv, hm⟩ | hadv := s.tracker.advance_cases <;> rw [hadv]
  · exact State.stepPosition_trackerInv h hring href hwalk hnew cause hpos none
  · exact State.stepPosition_trackerInv h hring href hwalk hnew cause hpos _
  · exact State.stepBoundary_trackerInv h hring href hnew cause (Nat.zero_le 2) false _
  · have hmissed := h.missed
    exact State.stepBoundary_trackerInv h hring href hnew cause (by omega) b none
  · exact State.stepLost_trackerInv h

end

/-! ### The tracker's own commands -/

theorem State.acquireMark_trackerInv {s : State} (h : s.tracker.Sound) (hstate : s.tracker.state = .acquiring)
    (hphase : s.tracker.phase = none) (hwalk : s.walkPos = .none) (n : Nat) : TrackerInv (s.acquireMark n) := by
  have hsound := h.acquired n
  by_cases hready :
      s.tracker.config.avgDepth ≤ (s.tracker.acquired n).ring.length ∧ s.tracker.positionTaken.isSome = true
  · obtain ⟨hring, hpos⟩ := hready
    have hlt := s.tracker.positionTaken_lt h.config.marks_pos
    obtain ⟨k, hk⟩ := Option.isSome_iff_exists.1 hpos
    rw [s.acquireMark_of_ready n k hring hk]
    refine .of_phased { hsound with
      coast := Nat.zero_le _, tracks := rfl, ringFull := ?_, referenced := rfl, positioned := hpos, phase := rfl
      phase_le := (phaseFormula_bounds _ _ _ _ h.config.marks (hlt k hk)).2.2 } rfl
    rwa [Tracker.acquired_config]
  · rw [s.acquireMark_of_not_ready n hready]
    exact .of_acquiring hsound (by simpa using hstate) (by simpa using hphase) hwalk

/-- A mark handed to the tracker keeps its invariant, in every state. -/
theorem State.takeMark_trackerInv {s : State} (h : TrackerInv s) (n : Nat) : TrackerInv (s.takeMark n) := by
  have judged : s.tracker.state.tracks = true → TrackerInv (s.judgeMark n) := fun htracks => by
    obtain ⟨ph, hphased, hwalk⟩ := h.phased htracks
    obtain ⟨r, hr⟩ := Option.isSome_iff_exists.1 hphased.referenced
    unfold State.judgeMark
    split
    · exact h.of_sameTracking ⟨rfl, rfl⟩
    · rw [s.tracker.accept_eq r n hr]
      refine State.stepMark_trackerInv (s := s.setTracker (s.tracker.accepted r n)) (lo := ph + 1)
        (h.sound.accepted r n) ?_ rfl (State.walkPos_next hwalk) rfl _
      rw [State.setTracker_tracker, Tracker.accepted_config]
      exact hphased.ringFull.trans (Tracker.accepted_ring_length h.ringSize r n)
  unfold State.takeMark
  split
  case h_1 => exact h
  case h_2 hstate =>
    obtain ⟨hphase, hwalk⟩ := h.notTracking (by rw [hstate]; rfl)
    exact State.acquireMark_trackerInv h.sound hstate hphase hwalk n
  case h_3 hstate => exact judged (by rw [hstate]; rfl)
  case h_4 hstate => exact judged (by rw [hstate]; rfl)
  case h_5 hstate =>
    unfold State.reacquireMark
    split
    · have hcleared : Tracker.Sound
          { s.tracker.cleared .acquiring with coast := 0, missed := 0, indexSeen := false } :=
        { h.sound.cleared .acquiring with coast := Nat.zero_le _, missed := Nat.zero_le 2 }
      have hwalk := (h.notTracking (by rw [hstate]; rfl)).2
      apply State.acquireMark_trackerInv
      exacts [hcleared, rfl, rfl, hwalk]
    · exact h

/-- An index edge sets flags that the invariant does not speak of. -/
theorem State.takeIndex_trackerInv {s : State} (h : TrackerInv s) : TrackerInv s.takeIndex := by
  unfold State.takeIndex
  split
  · exact h
  · exact h
  · exact { h with }

theorem State.takeEdge_trackerInv {s : State} (h : TrackerInv s) (ch : Channel) (n : Nat) :
    TrackerInv (s.takeEdge ch n) := by
  cases ch
  · exact State.takeMark_trackerInv h n
  · exact State.takeIndex_trackerInv h

theorem State.recognise_trackerInv {s : State} (h : TrackerInv s) (ch : Channel) : TrackerInv (s.recognise ch) := by
  have hheld : TrackerInv (s.completeHold ch) := h.of_sameTracking (.then_setChannel (.refl s))
  unfold State.recognise
  split
  · exact State.takeEdge_trackerInv hheld ch _
  · exact hheld

/-- A substitution counts one more coast, below the limit, and keeps the invariant (R26). -/
theorem State.substituteMark_trackerInv {s : State} (h : TrackerInv s) (htracks : s.tracker.state.tracks = true)
    (hcoast : s.tracker.coast < s.tracker.config.coastLimit) : TrackerInv s.substituteMark := by
  obtain ⟨ph, hphased, hwalk⟩ := h.phased htracks
  have hsound : s.tracker.substitute.Sound := { h.sound with coast := hcoast }
  have hstep : TrackerInv ((s.setTracker s.tracker.substitute).stepMark .coasting .coast) :=
    State.stepMark_trackerInv (s := s.setTracker s.tracker.substitute) (lo := ph + 1) hsound hphased.ringFull
      (by simpa [Tracker.substitute] using hphased.referenced) (State.walkPos_next hwalk) rfl _
  exact hstep.of_sameTracking (.ite (.refl _) ⟨rfl, rfl⟩)

/-- The phase rise takes the walker with it (R30). -/
theorem State.phaseRise_trackerInv {s : State} (h : TrackerInv s) (htracks : s.tracker.state.tracks = true) :
    TrackerInv ((s.setTracker { s.tracker with phase := some (s.tracker.phaseAt s.now) }).advanceWalk s.tracker.cycle
      (s.tracker.phaseAt s.now)) := by
  obtain ⟨ph, hphased, hwalk⟩ := h.phased htracks
  have hnew := h.sound.phased htracks hphased.ringFull hphased.referenced hphased.positioned s.now
  exact State.advanceWalk_trackerInv (s := s.setTracker _) (lo := ph + 1) _ hnew (State.walkPos_next hwalk) (.refl _)

theorem State.startTracker_trackerInv {s : State} (h : TrackerInv s)
    (hstate : s.tracker.state = .stopped ∨ s.tracker.state = .lost) : TrackerInv s.startTracker :=
  have hsound : Tracker.Sound
      { s.tracker.cleared .acquiring with cycle := 0, coast := 0, missed := 0, indexSeen := false } :=
    { h.sound.cleared .acquiring with coast := Nat.zero_le _, missed := Nat.zero_le 2 }
  .of_acquiring hsound rfl rfl (h.notTracking (by rcases hstate with hs | hs <;> rw [hs] <;> rfl)).2

theorem State.stopTracker_trackerInv {s : State} (h : TrackerInv s) : TrackerInv s.stopTracker := by
  have hsound : Tracker.Sound { s.tracker.cleared .stopped with coast := 0, missed := 0, indexSeen := false } :=
    { h.sound.cleared .stopped with coast := Nat.zero_le _, missed := Nat.zero_le 2 }
  have hwalk : (if s.tracker.state.tracks then s.untracked else s).walkPos = .none := by
    split
    · rfl
    · rename_i htracks
      exact (h.notTracking (by simpa using htracks)).2
  rw [State.stopTracker_eq]
  exact .of_resting hsound (.inl ⟨rfl, rfl⟩) rfl rfl rfl rfl hwalk

/-! ### Every command -/

/-- The tracker of a reset is sound. -/
theorem Tracker.Sound.atReset : Tracker.atReset.Sound :=
  { config := ⟨by decide, by decide, by decide, by decide, by decide, by decide, by decide⟩
    ringSize := by decide, ringRange := by decide, estimate := by decide, position := by simp [Tracker.atReset]
    coast := by decide, missed := by decide }

theorem State.resetAt_trackerInv (t : Nat) (mark index hold : Level) : TrackerInv (State.resetAt t mark index hold) :=
  .of_resting Tracker.Sound.atReset (.inl ⟨rfl, rfl⟩) rfl rfl rfl rfl rfl

/-- A request keeps the invariant if what it does once admitted keeps it. -/
theorem State.request_trackerInv {α : Type} {s : State} (h : TrackerInv s) (t : Nat) (p : Port) (tag rsv : Tag)
    (needs : Needs) (args : Option α) (act : α → State → State)
    (hact : ∀ (a : α) (v : State), args = some a → TrackerInv v → needs.tracker v.tracker.state = true →
      TrackerInv (act a v)) :
    TrackerInv (s.takeFrame t p fun v => v.admission p tag rsv needs args act) := by
  refine State.takeFrame_ind s t p _ (h.of_sameTracking ⟨rfl, rfl⟩) (h.of_sameTracking ⟨rfl, rfl⟩) fun _ => ?_
  have hframe : TrackerInv (s.onlyFrame t p) := h.of_sameTracking ⟨rfl, rfl⟩
  exact State.admit_ind _ p tag rsv needs args act (fun _ => hframe.of_sameTracking ⟨rfl, rfl⟩) fun a ha _ _ ht =>
    hact a _ ha hframe ht

/-- Every command keeps the tracker's invariant. -/
theorem exec_trackerInv (i : Instr) (s u : State) (hs : TrackerInv s) (h : exec i s = .next u) : TrackerInv u := by
  cases hi : concernsTracker i with
  | false => exact hs.of_sameTracking (exec_sameTracking i s u hi h)
  | true =>
    have hnow : ∀ t, TrackerInv (s.advanceTo t) := fun t => hs.of_sameTracking ⟨rfl, rfl⟩
    cases i with
    | reset t mark index hold =>
      cases h
      exact (State.resetAt_trackerInv (max s.now t) mark index hold).of_sameTracking ⟨rfl, rfl⟩
    | setTracker t p tag rsv body =>
      cases h
      refine State.request_trackerInv hs t p _ _ _ _ _ fun c v hc hv hstate => ?_
      have hstopped : v.tracker.state = .stopped := by simpa [needsForSet] using hstate
      obtain ⟨hring, href, hpos⟩ := hv.resting (.inl hstopped)
      obtain ⟨hphase, hwalk⟩ := hv.notTracking (by rw [hstopped]; rfl)
      have hcoast := hv.stopped hstopped
      have hsound : Tracker.Sound { v.tracker with config := c } :=
        { hv.sound with
          config := TrackerConfig.legal_of_parse hc
          estimate := by rw [hv.estimate, hring, floorMean_newestOf_nil, floorMean_newestOf_nil]
          position := by simp [hpos]
          coast := by simp [hcoast] }
      exact .of_resting hsound (.inl ⟨hstopped, hcoast⟩) hring href hpos hphase hwalk
    | startTracker t p tag rsv body =>
      cases h
      refine State.request_trackerInv hs t p _ _ _ _ _ fun _ v _ hv hstate => ?_
      exact (State.startTracker_trackerInv hv (by simpa [needsForStart] using hstate)).of_sameTracking ⟨rfl, rfl⟩
    | stopTracker t p tag rsv body =>
      cases h
      refine State.request_trackerInv hs t p _ _ _ _ _ fun _ v _ hv _ => ?_
      refine TrackerInv.of_sameTracking ?_ (.then_setPort (.refl _))
      split
      · exact hv
      · exact State.stopTracker_trackerInv hv
    | mark t =>
      cases h
      split
      · exact State.takeMark_trackerInv ((hnow t).of_sameTracking (.then_setChannel (.refl _))) _
      · exact hnow t
    | indexEdge t =>
      cases h
      split
      · exact State.takeIndex_trackerInv ((hnow t).of_sameTracking (.then_setChannel (.refl _)))
      · exact hnow t
    | conditionerHoldBegins t ch sample =>
      cases h
      split
      · exact State.recognise_trackerInv (hnow t) ch
      · exact (hnow t).of_sameTracking (.then_setChannel (.refl _))
    | noMarkLimit t =>
      cases h
      split
      · rename_i hdue
        have hstate : (s.advanceTo t).tracker.state = .acquiring := by
          simp only [State.noMarkLimitDue, Bool.and_eq_true, decide_eq_true_eq] at hdue
          exact hdue.1.1
        obtain ⟨hphase, hwalk⟩ := (hnow t).notTracking (by rw [hstate]; rfl)
        exact .of_acquiring { (hnow t).sound.clearRing with } hstate hphase hwalk
      · exact hnow t
    | lateTimeout t =>
      cases h
      split
      · rename_i hdue
        simp only [State.lateTimeoutDue, Bool.and_eq_true] at hdue
        split
        · exact State.substituteMark_trackerInv (hnow t) hdue.1.1 ‹_›
        · exact State.loseTracking_trackerInv (hnow t).sound .limit
      · exact hnow t
    | phaseRise t =>
      cases h
      split
      · rename_i hrise
        simp only [State.phaseRises, Bool.and_eq_true] at hrise
        exact State.phaseRise_trackerInv (hnow t) hrise.1
      · exact hnow t
    | _ => cases hi

/-- Settles O57: every command keeps the invariant, and an idle tick leaves the tracker and the walk position. -/
theorem everyStepKeepsTheTrackerInvariant : Obligations.EveryStepKeepsTheTrackerInvariant := by
  intro s u hs hstep
  unfold step at hstep
  split at hstep
  case h_1 c rest _ => exact exec_trackerInv c (s.setPending rest) u (hs.of_sameTracking ⟨rfl, rfl⟩) hstep
  case h_2 =>
    cases hstep
    exact hs.of_sameTracking ⟨rfl, rfl⟩

end Sys2Proof.Machine
end

section
/-! What a channel recognises and delivers, what its commands and a mark do in every state of the tracker, and when the
tracker's own events are due. -/

namespace Sys2Proof.Machine

/-! ### What a channel recognises and delivers -/

/-- A channel recognises the transition away from its filtered level, with the tick at which the hold began (R1). -/
theorem ChannelState.recognised_eq_some (c : ChannelState) (f now n : Nat) (e : Edge) :
    c.recognised f now = some (e, n) ↔
      c.sampled ≠ some now ∧ ∃ l, c.filtered = .level l ∧ e = l.leaving ∧
        ((c.hold = some n ∧ n + f ≤ now) ∨ (c.hold = none ∧ f = 0 ∧ n = now)) := by
  unfold ChannelState.recognised
  by_cases hs : c.sampled = some now
  · simp [hs]
  · rw [if_neg hs]
    cases c.filtered with
    | awaiting since => simp
    | level l =>
      cases c.hold with
      | none => by_cases hf : f = 0 <;> simp [hs, hf, edgeTo_flipLevel, eq_comm]
      | some m =>
        by_cases hm : m + f ≤ now
        · simp only [if_pos hm, edgeTo_flipLevel, Option.some.injEq, Prod.mk.injEq]
          constructor
          · rintro ⟨rfl, rfl⟩
            exact ⟨hs, l, rfl, rfl, .inl ⟨rfl, hm⟩⟩
          · rintro ⟨-, l', hl, rfl, ⟨rfl, -⟩ | ⟨hn, -⟩⟩
            · cases hl
              exact ⟨rfl, rfl⟩
            · cases hn
        · simp only [if_neg hm, reduceCtorEq, false_iff]
          rintro ⟨-, l', -, -, ⟨hn, hle⟩ | ⟨hn, -⟩⟩
          · cases hn
            exact hm hle
          · cases hn

/-- A channel delivers what it recognises in the selected direction (R3). -/
theorem State.delivered_eq_some (s : State) (ch : Channel) (n : Nat) :
    s.delivered ch = some n ↔ ∃ e, s.recognised ch = some (e, n) ∧ s.tracker.config.Selects ch e := by
  unfold State.delivered
  cases s.recognised ch with
  | none => simp
  | some x =>
    obtain ⟨e, m⟩ := x
    by_cases hsel : s.tracker.config.Selects ch e
    · simp only [(TrackerConfig.delivers_eq_true _ _ _).2 hsel, if_true, Option.some.injEq, Prod.mk.injEq]
      exact ⟨fun h => ⟨e, ⟨rfl, h⟩, hsel⟩, fun ⟨_, h, _⟩ => h.2⟩
    · have hd : ¬s.tracker.config.delivers ch e = true := fun h => hsel ((TrackerConfig.delivers_eq_true _ _ _).1 h)
      simp only [if_neg hd, reduceCtorEq, Option.some.injEq, Prod.mk.injEq, false_iff]
      rintro ⟨_, ⟨rfl, -⟩, h⟩
      exact hsel h

/-- A transition of the other direction is recognised and not delivered. -/
theorem State.delivered_eq_none_of_not_selects {s : State} {ch : Channel} {e : Edge} {n : Nat}
    (hr : s.recognised ch = some (e, n)) (hsel : ¬s.tracker.config.Selects ch e) : s.delivered ch = none := by
  rw [Option.eq_none_iff_forall_not_mem]
  intro m hm
  obtain ⟨e', hr', hsel'⟩ := (s.delivered_eq_some ch m).1 hm
  cases hr.symm.trans hr'
  exact hsel hsel'

@[simp] theorem State.setChannel_channel (s : State) (ch : Channel) : s.setChannel ch (s.channel ch) = s := by
  cases ch <;> rfl

theorem flipLevel_eq_of_ne {l sample : Level} (h : sample ≠ l) : flipLevel l = sample := by
  revert h
  cases l <;> cases sample <;> decide

/-- A hold that completes: the filtered level is the new level, by the sample of this tick (R1). -/
theorem State.completeHold_eq {s : State} {ch : Channel} {l : Level} (h : (s.channel ch).filtered = .level l) :
    s.completeHold ch = s.setChannel ch
      { pin := flipLevel l, filtered := .level (flipLevel l), hold := none, sampled := some s.now } := by
  simp only [State.completeHold, ChannelState.complete, h]

/-! ### The commands of a channel -/

/-- MARK and INDEX_EDGE complete the hold of their channel and hand on the edge that it delivers (R4). -/
theorem exec_edgeCommand_of_delivered {t n : Nat} {ch : Channel} {s : State}
    (h : (s.advanceTo t).delivered ch = some n) :
    exec (ch.edgeCommand t) s = .next (((s.advanceTo t).completeHold ch).takeEdge ch n) := by
  cases ch with
  | mark => simp only [Channel.edgeCommand, exec, execMark, h, State.takeEdge]
  | index => simp only [Channel.edgeCommand, exec, execIndexEdge, h, State.takeEdge]

/-- With nothing delivered they only let time pass (log entry 7). -/
theorem exec_edgeCommand_of_not_delivered {t : Nat} {ch : Channel} {s : State}
    (h : (s.advanceTo t).delivered ch = none) : exec (ch.edgeCommand t) s = .next (s.advanceTo t) := by
  cases ch with
  | mark => simp only [Channel.edgeCommand, exec, execMark, h]
  | index => simp only [Channel.edgeCommand, exec, execIndexEdge, h]

theorem exec_mark_of_delivered {t n : Nat} {s : State} (h : (s.advanceTo t).delivered .mark = some n) :
    exec (.mark t) s = .next (((s.advanceTo t).completeHold .mark).takeMark n) :=
  exec_edgeCommand_of_delivered (ch := .mark) h

/-- A sample that begins no hold, or one with F not 0, is only the channel's (R1). -/
theorem exec_holdBegins_of_begin {t : Nat} {ch : Channel} {sample : Level} {s : State}
    (h : s.tracker.config.filterOf ch ≠ 0 ∨ ((s.advanceTo t).channel ch).canBegin sample (max s.now t) ≠ true) :
    exec (.conditionerHoldBegins t ch sample) s =
      .next ((s.advanceTo t).setChannel ch (((s.advanceTo t).channel ch).begin sample (max s.now t))) := by
  have hnot : ¬(s.tracker.config.filterLength ch = 0 ∧
      ((s.advanceTo t).channel ch).canBegin sample (s.advanceTo t).now = true) := by
    rw [TrackerConfig.filterLength_eq]
    rintro ⟨hf, hb⟩
    exact h.elim (fun h => h hf) (fun h => h hb)
  exact congrArg Host.Outcome.next (if_neg hnot)

/-- With F = 0 the sample that begins a hold completes it (R1). -/
theorem exec_holdBegins_of_complete {t : Nat} {ch : Channel} {sample : Level} {s : State}
    (hf : s.tracker.config.filterOf ch = 0)
    (hb : ((s.advanceTo t).channel ch).canBegin sample (max s.now t) = true) :
    exec (.conditionerHoldBegins t ch sample) s = .next ((s.advanceTo t).recognise ch) :=
  congrArg Host.Outcome.next (if_pos ⟨(TrackerConfig.filterLength_eq _ ch).trans hf, hb⟩)

/-- A sample taken already, one with a hold in progress and one equal to the filtered level change nothing. -/
theorem ChannelState.begin_of_no_beginning {c : ChannelState} {sample : Level} {now : Nat}
    (h : c.sampled = some now ∨ ∃ l, c.filtered = .level l ∧ (c.hold ≠ none ∨ sample = l)) :
    c.canBegin sample now ≠ true ∧ c.begin sample now = c := by
  have hb : c.canBegin sample now ≠ true := by
    rw [ne_eq, ChannelState.canBegin_eq_true]
    rintro ⟨l, hl, hs, hhold, hne⟩
    obtain h | ⟨l', hl', h | h⟩ := h
    · exact hs h
    · exact h hhold
    · cases hl.symm.trans hl'
      exact hne h
  refine ⟨hb, ?_⟩
  unfold ChannelState.begin
  split
  · rename_i since hawait
    obtain h | ⟨l, hl, -⟩ := h
    · rw [if_pos h]
    · cases hawait.symm.trans hl
  · rw [if_neg hb]

theorem ChannelState.begin_first {c : ChannelState} {sample : Level} {now since : Nat}
    (hf : c.filtered = .awaiting since) (hs : c.sampled ≠ some now) :
    c.canBegin sample now ≠ true ∧
      c.begin sample now = { pin := sample, filtered := .level sample, hold := none, sampled := some now } := by
  simp [ChannelState.canBegin, ChannelState.begin, hf, hs]

theorem ChannelState.begin_of_canBegin {c : ChannelState} {sample l : Level} {now : Nat} (hf : c.filtered = .level l)
    (hb : c.canBegin sample now = true) :
    c.begin sample now = { pin := sample, filtered := .level l, hold := some now, sampled := some now } := by
  simp [ChannelState.begin, hf, hb]

/-- Where a hold would begin and F is 0, the channel recognises the transition at this tick. -/
theorem State.recognised_of_canBegin {s : State} {ch : Channel} {l sample : Level}
    (hf : (s.channel ch).filtered = .level l)
    (hzero : s.tracker.config.filterOf ch = 0) (hb : (s.channel ch).canBegin sample s.now = true) :
    s.recognised ch = some (l.leaving, s.now) := by
  obtain ⟨l', hl', hs, hhold, -⟩ := (ChannelState.canBegin_eq_true _ _ _).1 hb
  refine (ChannelState.recognised_eq_some _ _ _ _ _).2 ⟨hs, l, hf, rfl, .inr ⟨hhold, ?_, rfl⟩⟩
  rwa [TrackerConfig.filterLength_eq]

theorem ChannelState.abandon_of_hold {c : ChannelState} {l : Level} {f now n : Nat} (hf : c.filtered = .level l)
    (hhold : c.hold = some n) (hs : c.sampled ≠ some now) (hle : now ≤ n + f) :
    c.abandon f now = { pin := l, filtered := .level l, hold := none, sampled := some now } := by
  simp [ChannelState.abandon, hf, hhold, hs, hle]

/-- No hold, one past its end, or no sample left to take: nothing is abandoned (log entries 7 and 19). -/
theorem ChannelState.abandon_of_none {c : ChannelState} {f now : Nat}
    (h : (∃ since, c.filtered = .awaiting since) ∨ c.sampled = some now ∨ c.hold = none ∨
      ∃ n, c.hold = some n ∧ n + f < now) : c.abandon f now = c := by
  unfold ChannelState.abandon
  split
  · rfl
  · rename_i l hl
    split
    · rename_i n hn
      refine if_neg ?_
      rintro ⟨hle, hs⟩
      obtain ⟨_, h⟩ | h | h | ⟨m, hm, hlt⟩ := h
      · cases hl.symm.trans h
      · exact hs h
      · cases hn.symm.trans h
      · cases hn.symm.trans hm
        omega
    · rfl

theorem exec_holdAbandoned (t : Nat) (ch : Channel) (s : State) :
    exec (.conditionerHoldAbandoned t ch) s = .next ((s.advanceTo t).setChannel ch
      (((s.advanceTo t).channel ch).abandon (s.tracker.config.filterOf ch) (max s.now t))) :=
  TrackerConfig.filterLength_eq s.tracker.config ch ▸ rfl

/-- UNSELECTED_TRANSITION completes the hold of a transition that is recognised and not delivered (R3). -/
theorem exec_unselected_of_recognised {t n : Nat} {ch : Channel} {e : Edge} {s : State}
    (hr : (s.advanceTo t).recognised ch = some (e, n)) (hsel : ¬s.tracker.config.Selects ch e) :
    exec (.unselectedTransition t ch) s = .next ((s.advanceTo t).completeHold ch) := by
  have hd : ¬(s.advanceTo t).tracker.config.delivers ch e = true := fun h =>
    hsel ((TrackerConfig.delivers_eq_true _ _ _).1 h)
  simp only [exec, execUnselectedTransition, hr, if_neg hd]

/-- With none recognised, or a delivered one, it only lets time pass (log entry 7). -/
theorem exec_unselected_of_none {t : Nat} {ch : Channel} {s : State}
    (h : (s.advanceTo t).recognised ch = none ∨
      ∃ e n, (s.advanceTo t).recognised ch = some (e, n) ∧ s.tracker.config.Selects ch e) :
    exec (.unselectedTransition t ch) s = .next (s.advanceTo t) := by
  obtain hr | ⟨e, n, hr, hsel⟩ := h
  · simp only [exec, execUnselectedTransition, hr]
  · have hd : (s.advanceTo t).tracker.config.delivers ch e = true := (TrackerConfig.delivers_eq_true _ _ _).2 hsel
    simp only [exec, execUnselectedTransition, hr, if_pos hd]

/-- Settles O30: the five things a sample can be, in the terms of the channel, and the three commands that take one. -/
theorem conditionerFollowsItsInput : Obligations.ConditionerFollowsItsInput := by
  refine ⟨ChannelState.recognised_eq_some, fun t ch sample s => ⟨fun hs => ?_, fun since hf hs => ?_, fun l hf =>
    ⟨fun hno => ?_, fun hhold hne hs => ⟨fun hlong => ?_, fun hzero => ?_⟩⟩⟩, fun t n ch l s hf hhold hs hle => ?_,
    fun t ch l s hf hs hend hsel => ?_⟩
  · obtain ⟨hb, hsame⟩ := ChannelState.begin_of_no_beginning (sample := sample) (.inl hs)
    rw [exec_holdBegins_of_begin (.inr hb), hsame, State.setChannel_channel]
  · obtain ⟨hb, hset⟩ := ChannelState.begin_first (sample := sample) hf hs
    rw [exec_holdBegins_of_begin (.inr hb), hset]
  · obtain ⟨hb, hsame⟩ := ChannelState.begin_of_no_beginning (now := max s.now t) (.inr ⟨l, hf, hno⟩)
    rw [exec_holdBegins_of_begin (.inr hb), hsame, State.setChannel_channel]
  · have hb := (ChannelState.canBegin_eq_true _ _ _).2 ⟨l, hf, hs, hhold, hne⟩
    rw [exec_holdBegins_of_begin (.inl hlong), ChannelState.begin_of_canBegin hf hb]
  · have hb := (ChannelState.canBegin_eq_true _ _ _).2 ⟨l, hf, hs, hhold, hne⟩
    have hr : (s.advanceTo t).recognised ch = some (l.leaving, max s.now t) :=
      State.recognised_of_canBegin hf hzero hb
    refine ⟨fun hsel => ?_, fun hsel => ?_⟩
    · rw [exec_holdBegins_of_complete hzero hb,
        State.recognise_of_not_delivered _ ch (State.delivered_eq_none_of_not_selects hr hsel),
        State.completeHold_eq hf, flipLevel_eq_of_ne hne]
      rfl
    · have hd : (s.advanceTo t).delivered ch = some (max s.now t) :=
        (State.delivered_eq_some _ ch _).2 ⟨l.leaving, hr, hsel⟩
      refine ⟨hd, ?_⟩
      rw [exec_holdBegins_of_complete hzero hb, State.recognise_of_delivered _ ch _ hd,
        exec_edgeCommand_of_delivered hd]
  · rw [exec_holdAbandoned, ChannelState.abandon_of_hold hf hhold hs hle]
  · obtain ⟨n, hn⟩ : ∃ n, (s.advanceTo t).recognised ch = some (l.leaving, n) := by
      have key := fun n => (ChannelState.recognised_eq_some ((s.advanceTo t).channel ch)
        (s.tracker.config.filterOf ch) (max s.now t) n l.leaving).2
      simp only [State.recognised, TrackerConfig.filterLength_eq]
      obtain ⟨n, hn, hle⟩ | ⟨hn, hzero⟩ := hend
      · exact ⟨n, key n ⟨hs, l, hf, rfl, .inl ⟨hn, hle⟩⟩⟩
      · exact ⟨_, key _ ⟨hs, l, hf, rfl, .inr ⟨hn, hzero, rfl⟩⟩⟩
    rw [exec_unselected_of_recognised hn hsel, State.completeHold_eq hf]
    cases l <;> rfl

/-! ### Marks and index edges in every state -/

/-- Settles O31: STOPPED and LOST without AUTO_REACQUIRE ignore the mark; with it, the empty ring of a reacquisition is
below AVG_DEPTH, so the mark is taken and does not lock. -/
theorem markInStoppedOrLost : Obligations.MarkInStoppedOrLost := by
  intro t n s hd
  rw [exec_mark_of_delivered hd]
  refine ⟨fun hignored => ?_, fun hlost hauto hdepth => ?_⟩
  · obtain hst | ⟨hst, hauto⟩ := hignored
    · simp [State.takeMark, hst]
    · simp [State.takeMark, State.reacquireMark, hst, hauto]
  · have hring : ¬s.tracker.config.avgDepth ≤ 0 := by omega
    simp only [State.takeMark, State.completeHold_tracker, State.advanceTo_tracker, hlost, State.reacquireMark, hauto,
      if_true]
    rw [State.acquireMark_of_not_ready _ n fun h => hring h.1]
    cases huse : s.tracker.config.indexUse <;>
      simp [State.postState_eq, Tracker.acquired, Tracker.positionTaken, Tracker.cleared, State.setTracker, huse]

/-- Settles O32 by the two outcomes of a mark in ACQUIRING. -/
theorem markInAcquiringIsTakenAndMayLock : Obligations.MarkInAcquiringIsTakenAndMayLock := by
  intro t n s hd hacquiring
  have htake : ((s.advanceTo t).completeHold .mark).takeMark n =
      ((s.advanceTo t).completeHold .mark).acquireMark n := by
    simp [State.takeMark, hacquiring]
  rw [exec_mark_of_delivered hd, htake]
  refine ⟨fun hwait => ?_, fun k ph hring hpos hph => ?_⟩
  · rw [State.acquireMark_of_not_ready _ n (by simpa using hwait)]
    simp
  · rw [State.acquireMark_of_ready _ n k (by simpa using hring) (by simpa using hpos), hph]
    simp

/-- In LOCKED and COASTING a mark is judged. -/
theorem exec_mark_of_tracking {t n : Nat} {s : State} (hd : (s.advanceTo t).delivered .mark = some n)
    (hst : s.tracker.state = .locked ∨ s.tracker.state = .coasting) :
    exec (.mark t) s = .next (((s.advanceTo t).completeHold .mark).judgeMark n) := by
  rw [exec_mark_of_delivered hd]
  obtain hst | hst := hst <;> simp [State.takeMark, hst]

/-- A mark below the early bound, or at or before the reference, only posts MARK_REJECTED (R24). -/
theorem State.judgeMark_of_early {s : State} {r : Reference} {n : Nat} (href : s.tracker.reference = some r)
    (h : n ≤ r.time ∨ n - r.time < s.tracker.estimate * (16 - s.tracker.config.early) / 16) :
    s.judgeMark n =
      s.post (toOpen fun ps => ps.mask.markRejected) (s.recordNow (.markRejected (n - r.time))) := by
  unfold State.judgeMark
  rw [Tracker.elapsed_eq _ r n href]
  exact if_pos (h.imp_left Nat.sub_eq_zero_of_le)

/-- Any other mark is accepted (R25). -/
theorem State.judgeMark_of_accepted {s : State} {r : Reference} {n : Nat} (href : s.tracker.reference = some r)
    (hafter : r.time < n) (hbound : s.tracker.estimate * (16 - s.tracker.config.early) / 16 ≤ n - r.time) :
    s.judgeMark n = (s.setTracker (s.tracker.accepted r n)).stepMark .locked .relock := by
  unfold State.judgeMark
  rw [Tracker.elapsed_eq _ r n href, Tracker.accept_eq _ r n href]
  exact if_neg (not_or.2 ⟨Nat.sub_ne_zero_of_lt hafter, not_lt.2 hbound⟩)

/-- Settles O33: below the bound, or at or before the reference, the judgement only posts the record. -/
theorem earlyMarkIsRejected : Obligations.EarlyMarkIsRejected := by
  intro t n r s hd hst href hearly
  rw [exec_mark_of_tracking hd hst, State.judgeMark_of_early (r := r) (by simpa using href) (by simpa using hearly)]
  rfl

/-- Settles O34: from the early bound on, the judgement accepts the mark. -/
theorem acceptedMarkTakesItsSteps : Obligations.AcceptedMarkTakesItsSteps := by
  intro t n r s hd hst href hafter hbound
  rw [exec_mark_of_tracking hd hst,
    State.judgeMark_of_accepted (r := r) (by simpa using href) hafter (by simpa using hbound),
    State.completeHold_tracker]
  rfl

/-- Settles O38 by the state the edge finds. -/
theorem indexEdgeArmsTheCheck : Obligations.IndexEdgeArmsTheCheck := by
  intro t n s hd
  have hexec : exec (.indexEdge t) s = .next ((s.advanceTo t).completeHold .index).takeIndex :=
    exec_edgeCommand_of_delivered (ch := .index) hd
  rw [hexec]
  refine ⟨fun hst => ?_, fun hst => ?_⟩
  · obtain hst | hst | hst := hst <;> simp [State.takeIndex, hst, State.setTracker]
  · obtain hst | hst := hst <;> simp [State.takeIndex, hst]

/-! ### What falls due at a tick -/

theorem Tracker.phaseAt_eq_phaseNow (t : Tracker) (now : Nat) : t.phaseAt now = t.phaseNow now := rfl

theorem State.noMarkLimitDue_eq_true (s : State) :
    s.noMarkLimitDue = true ↔
      s.tracker.state = .acquiring ∧ ∃ r, s.tracker.reference = some r ∧ 8388608 ≤ s.now - r.time := by
  cases href : s.tracker.reference <;>
    simp [State.noMarkLimitDue, Tracker.elapsed, href, Config.noMarkLimit]

theorem State.lateTimeoutDue_eq_true (s : State) :
    s.lateTimeoutDue = true ↔ (s.tracker.state = .locked ∨ s.tracker.state = .coasting) ∧
      ∃ r, s.tracker.reference = some r ∧ s.tracker.estimate * (16 + s.tracker.config.late) / 16 ≤ s.now - r.time := by
  cases href : s.tracker.reference <;>
    simp [State.lateTimeoutDue, Tracker.elapsed, Tracker.lateBound, href, TrackerState.tracks_eq_true]

theorem State.phaseRises_eq_true (s : State) :
    s.phaseRises = true ↔ (s.tracker.state = .locked ∨ s.tracker.state = .coasting) ∧
      ∃ ph, s.tracker.phase = some ph ∧ ph < s.tracker.phaseNow s.now := by
  unfold State.phaseRises
  rw [Bool.and_eq_true, TrackerState.tracks_eq_true]
  refine and_congr_right fun _ => ?_
  cases s.tracker.phase with
  | none => simp
  | some ph => simp [← Tracker.phaseAt_eq_phaseNow]

theorem LineState.timerDue_eq_true (l : LineState) (now : Nat) :
    l.timerDue now = true ↔ ∃ id seq expires, l.pulse = .timeEnd id seq expires ∧ expires ≤ now := by
  cases hp : l.pulse <;> simp [LineState.timerDue, hp]

/-- Settles O39. -/
theorem noMarkLimitClearsTheRing : Obligations.NoMarkLimitClearsTheRing := by
  intro t r s hst href hlimit
  have hdue : (s.advanceTo t).noMarkLimitDue = true := (State.noMarkLimitDue_eq_true _).2 ⟨hst, r, href, hlimit⟩
  exact congrArg Host.Outcome.next (if_pos hdue)

end Sys2Proof.Machine
end

section
/-! The event commands whose event is not due, and the events that an idle tick queues. -/

namespace Sys2Proof.Machine

/-! ### Events that are not due -/

/-- A timer or limit command whose event is not due only lets time pass. -/
theorem exec_noMarkLimit_of_not_due {t : Nat} {s : State} (h : ¬(s.advanceTo t).noMarkLimitDue = true) :
    exec (.noMarkLimit t) s = .next (s.advanceTo t) :=
  congrArg Host.Outcome.next (if_neg h)

theorem exec_lateTimeout_of_not_due {t : Nat} {s : State} (h : ¬(s.advanceTo t).lateTimeoutDue = true) :
    exec (.lateTimeout t) s = .next (s.advanceTo t) :=
  congrArg Host.Outcome.next (if_neg h)

theorem exec_phaseRise_of_not_due {t : Nat} {s : State} (h : ¬(s.advanceTo t).phaseRises = true) :
    exec (.phaseRise t) s = .next (s.advanceTo t) :=
  congrArg Host.Outcome.next (if_neg h)

theorem exec_pulseTimerExpiry_of_not_due {t : Nat} {l : Line} {s : State}
    (h : ¬(s.line l).timerDue (max s.now t) = true) :
    exec (.pulseTimerExpiry t l) s = .next (s.advanceTo t) :=
  congrArg Host.Outcome.next (if_neg h)

theorem exec_holdAssertion_of_same {t : Nat} {s : State}
    (h : (s.advanceTo t).hold.sampled = some (max s.now t) ∨
      (s.advanceTo t).hold.awaiting = none ∧ (s.advanceTo t).hold.pin = .low) :
    exec (.holdAssertion t) s = .next (s.advanceTo t) := by
  simp only [exec, execHoldAssertion, State.advanceTo_now, HoldInput.sample_same _ _ _ h]
  rfl

theorem exec_holdDeassertion_of_same {t : Nat} {s : State}
    (h : (s.advanceTo t).hold.sampled = some (max s.now t) ∨
      (s.advanceTo t).hold.awaiting = none ∧ (s.advanceTo t).hold.pin = .high) :
    exec (.holdDeassertion t) s = .next (s.advanceTo t) := by
  simp only [exec, execHoldDeassertion, State.advanceTo_now, HoldInput.sample_same _ _ _ h]
  rfl

/-- The job in service, where a completion may be taken, is none that the state forbids. -/
theorem State.ripeJob_ne {s : State} {t : Nat} {j : Job}
    (h : ∀ v, s.engine.service = some v → v.takenAt < max s.now t → v.job ≠ j) : (s.advanceTo t).ripeJob ≠ some j := by
  intro hripe
  obtain ⟨v, hv, hlt, hj⟩ := (State.ripeJob_eq_some _ _).1 hripe
  exact h v hv hlt hj

/-- Settles O55, command by command. -/
theorem eventsThatAreNotDueDoNothing : Obligations.EventsThatAreNotDueDoNothing := by
  intro t s
  refine ⟨exec_edgeCommand_of_not_delivered (ch := .mark), exec_edgeCommand_of_not_delivered (ch := .index), fun ch =>
    ⟨exec_unselected_of_none, fun h => ?_⟩, fun h => exec_noMarkLimit_of_not_due ?_,
    fun h => exec_lateTimeout_of_not_due ?_, fun h => exec_phaseRise_of_not_due ?_,
    fun l h => exec_pulseTimerExpiry_of_not_due ?_, fun h => exec_holdAssertion_of_same (by simpa using h),
    fun h => exec_holdDeassertion_of_same (by simpa using h), fun h => ?_, fun h => ?_, fun h => ?_, fun h => ?_,
    fun h => ?_, fun h => ?_⟩
  · rw [exec_holdAbandoned, ChannelState.abandon_of_none h, State.setChannel_channel]
  · rw [State.noMarkLimitDue_eq_true]
    rintro ⟨hst, r, hr, hle⟩
    obtain h | h | ⟨r', hr', hlt⟩ := h
    · exact h hst
    · cases h.symm.trans hr
    · cases hr.symm.trans hr'
      exact absurd hlt (not_lt.2 hle)
  · rw [State.lateTimeoutDue_eq_true]
    rintro ⟨hst, r, hr, hle⟩
    obtain h | h | ⟨r', hr', hlt⟩ := h
    · exact hst.elim h.1 h.2
    · cases h.symm.trans hr
    · cases hr.symm.trans hr'
      exact absurd hlt (not_lt.2 hle)
  · rw [State.phaseRises_eq_true]
    rintro ⟨hst, ph, hph, -⟩
    obtain h | h := h
    · exact hst.elim h.1 h.2
    · cases h.symm.trans hph
  · rw [LineState.timerDue_eq_true]
    rintro ⟨id, seq, expires, hp, hle⟩
    exact absurd (h id seq expires hp) (not_lt.2 hle)
  -- The six completions: the job that the completion asks for is not ripe.
  all_goals
    simp only [exec, execInsertionCompletes, execEntryDeletionCompletes, execLineClearCompletes,
      execReleaseDeletionCompletes, execTeardownSweepCompletes, execSpentRemovalCompletes]
    split
    · rename_i hripe
      exact absurd hripe (State.ripeJob_ne fun v => by apply h)
    · rfl

/-! ### The idle tick -/

theorem mem_whenDue (due : Bool) (i j : Instr) : j ∈ whenDue due i ↔ due = true ∧ j = i := by
  cases due <;> simp [whenDue]

theorem nodup_whenDue (due : Bool) (i : Instr) : (whenDue due i).Nodup := by
  cases due <;> simp [whenDue]

/-- A complete hold is recognised at this tick. -/
theorem State.recognised_of_holdComplete {s : State} {ch : Channel} {l : Level}
    (h : (s.channel ch).HoldComplete (s.tracker.config.filterOf ch) s.now l) :
    ∃ n, s.recognised ch = some (l.leaving, n) ∧ (s.channel ch).hold ≠ none := by
  obtain ⟨hf, hs, n, hn, hle⟩ := h
  rw [← TrackerConfig.filterLength_eq] at hle
  exact ⟨n, (ChannelState.recognised_eq_some _ _ _ _ _).2 ⟨hs, l, hf, rfl, .inl ⟨hn, hle⟩⟩, by simp [hn]⟩

/-- A tick brings a channel nothing without a complete hold, and with one its recognition alone, delivered or not (R1,
R3). -/
theorem State.dueRecognition_cases (s : State) (ch : Channel) :
    (s.dueRecognition ch = [] ∧ ∀ l, ¬(s.channel ch).HoldComplete (s.tracker.config.filterOf ch) s.now l) ∨
      ∃ l i, s.dueRecognition ch = [i] ∧ (s.channel ch).HoldComplete (s.tracker.config.filterOf ch) s.now l ∧
        (s.tracker.config.Selects ch l.leaving ∧ i = ch.edgeCommand s.now ∨
          ¬s.tracker.config.Selects ch l.leaving ∧ i = .unselectedTransition s.now ch) := by
  unfold State.dueRecognition
  cases hr : s.recognised ch with
  | none =>
    refine .inl ⟨rfl, fun l h => ?_⟩
    obtain ⟨n, hn, -⟩ := State.recognised_of_holdComplete h
    cases hr.symm.trans hn
  | some x =>
    obtain ⟨e, n⟩ := x
    by_cases hhold : (s.channel ch).hold = none
    · refine .inl ⟨if_pos hhold, fun l h => ?_⟩
      obtain ⟨_, -, hne⟩ := State.recognised_of_holdComplete h
      exact hne hhold
    · obtain ⟨hs, l, hf, rfl, ⟨hn, hle⟩ | ⟨hn, -⟩⟩ := (ChannelState.recognised_eq_some _ _ _ _ _).1 hr
      · rw [TrackerConfig.filterLength_eq] at hle
        dsimp only
        rw [if_neg hhold]
        by_cases hsel : s.tracker.config.Selects ch l.leaving
        · rw [if_pos ((TrackerConfig.delivers_eq_true _ _ _).2 hsel)]
          exact .inr ⟨l, ch.edgeCommand s.now, by cases ch <;> rfl, ⟨hf, hs, n, hn, hle⟩, .inl ⟨hsel, rfl⟩⟩
        · rw [if_neg fun h => hsel ((TrackerConfig.delivers_eq_true _ _ _).1 h)]
          exact .inr ⟨l, _, rfl, ⟨hf, hs, n, hn, hle⟩, .inr ⟨hsel, rfl⟩⟩
      · exact absurd hn hhold

theorem State.mem_dueRecognition (s : State) (ch : Channel) (i : Instr) :
    i ∈ s.dueRecognition ch ↔
      ∃ l, (s.channel ch).HoldComplete (s.tracker.config.filterOf ch) s.now l ∧
        (s.tracker.config.Selects ch l.leaving ∧ i = ch.edgeCommand s.now ∨
          ¬s.tracker.config.Selects ch l.leaving ∧ i = .unselectedTransition s.now ch) := by
  obtain ⟨hnil, hno⟩ | ⟨l, j, hone, hl, hj⟩ := s.dueRecognition_cases ch
  · simp only [hnil, List.not_mem_nil, hno, false_and, exists_false]
  · rw [hone, List.mem_singleton]
    constructor
    · rintro rfl
      exact ⟨l, hl, hj⟩
    · rintro ⟨l', hl', hi⟩
      cases hl.1.symm.trans hl'.1
      obtain ⟨hsel, rfl⟩ | ⟨hsel, rfl⟩ := hj
      · exact hi.elim (·.2) fun hi => absurd hsel hi.1
      · exact hi.elim (fun hi => absurd hi.1 hsel) (·.2)

theorem State.nodup_dueRecognition (s : State) (ch : Channel) : (s.dueRecognition ch).Nodup := by
  obtain ⟨hnil, -⟩ | ⟨_, _, hone, -⟩ := s.dueRecognition_cases ch
  · simp [hnil]
  · simp [hone]

/-- The job in service brings its completion when its ticks have passed (R57). -/
def State.dueCompletion (s : State) : List Instr :=
  match s.engine.service with
  | some v => whenDue (v.completes s.now) (v.job.completion s.now)
  | none => []

theorem State.mem_dueCompletion (s : State) (i : Instr) :
    i ∈ s.dueCompletion ↔
      ∃ v, s.engine.service = some v ∧ v.takenAt + 1 + Config.freeJobTicks v.draw % 200 ≤ s.now ∧
        i = v.job.completion s.now := by
  unfold State.dueCompletion
  cases s.engine.service with
  | none => simp
  | some v => simp [mem_whenDue, Service.completes]

theorem State.dueEvents_eq (s : State) :
    s.dueEvents = s.dueRecognition .mark ++ s.dueRecognition .index ++ whenDue s.noMarkLimitDue (.noMarkLimit s.now) ++
      whenDue s.lateTimeoutDue (.lateTimeout s.now) ++ whenDue s.phaseRises (.phaseRise s.now) ++
      (List.finRange 16).flatMap (fun l => whenDue ((s.line l).timerDue s.now) (.pulseTimerExpiry s.now l)) ++
      allPorts.flatMap (fun p => whenDue (s.silenceDue p) (.silenceExpiry s.now p)) ++ s.dueCompletion := by
  unfold State.dueEvents State.dueCompletion
  rfl

theorem mem_allPorts (p : Port) : p ∈ allPorts := by cases p <;> decide

/-- The events that a tick queues are those due by the rules. -/
theorem State.mem_dueEvents (s : State) (i : Instr) : i ∈ s.dueEvents ↔ s.Due i := by
  simp only [State.dueEvents_eq, List.mem_append, State.mem_dueRecognition, mem_whenDue, List.mem_flatMap,
    List.mem_finRange, mem_allPorts, true_and, State.mem_dueCompletion, or_assoc]
  constructor
  · rintro (⟨l, hl, hi⟩ | ⟨l, hl, hi⟩ | ⟨hdue, rfl⟩ | ⟨hdue, rfl⟩ | ⟨hdue, rfl⟩ | ⟨l, hdue, rfl⟩ | ⟨p, hdue, rfl⟩ |
      ⟨v, hv, hle, rfl⟩)
    · obtain ⟨hsel, rfl⟩ | ⟨hsel, rfl⟩ := hi
      · exact .edge .mark l hl hsel
      · exact .unselected .mark l hl hsel
    · obtain ⟨hsel, rfl⟩ | ⟨hsel, rfl⟩ := hi
      · exact .edge .index l hl hsel
      · exact .unselected .index l hl hsel
    · obtain ⟨hst, r, hr, hle⟩ := s.noMarkLimitDue_eq_true.1 hdue
      exact .noMarkLimit r hst hr hle
    · obtain ⟨hst, r, hr, hle⟩ := s.lateTimeoutDue_eq_true.1 hdue
      exact .lateTimeout r hst hr hle
    · obtain ⟨hst, ph, hph, hlt⟩ := s.phaseRises_eq_true.1 hdue
      exact .phaseRise ph hst hph hlt
    · obtain ⟨id, seq, expires, hp, hle⟩ := (LineState.timerDue_eq_true _ _).1 hdue
      exact .pulseTimer l id seq expires hp hle
    · obtain ⟨limit, start, hs, hle⟩ := (s.silenceDue_eq_true p).1 hdue
      exact .silence p limit start hs hle
    · exact .job v hv hle
  · intro hdue
    cases hdue with
    | edge ch l hl hsel =>
      cases ch
      · exact .inl ⟨l, hl, .inl ⟨hsel, rfl⟩⟩
      · exact .inr (.inl ⟨l, hl, .inl ⟨hsel, rfl⟩⟩)
    | unselected ch l hl hsel =>
      cases ch
      · exact .inl ⟨l, hl, .inr ⟨hsel, rfl⟩⟩
      · exact .inr (.inl ⟨l, hl, .inr ⟨hsel, rfl⟩⟩)
    | noMarkLimit r hst hr hle => simp [s.noMarkLimitDue_eq_true.2 ⟨hst, r, hr, hle⟩]
    | lateTimeout r hst hr hle => simp [s.lateTimeoutDue_eq_true.2 ⟨hst, r, hr, hle⟩]
    | phaseRise ph hst hph hlt => simp [s.phaseRises_eq_true.2 ⟨hst, ph, hph, hlt⟩]
    | pulseTimer l id seq expires hp hle =>
      have htimer := (LineState.timerDue_eq_true (s.line l) s.now).2 ⟨id, seq, expires, hp, hle⟩
      simp [htimer]
    | silence p limit start hs hle => simp [(s.silenceDue_eq_true p).2 ⟨limit, start, hs, hle⟩]
    | job v hv hle => simp [hv, hle]

/-- The part of the due events that a command stands in: the two channels, the limit, the timeout, the rise, the pulse
timers, the silence timers, the completion. -/
def duePart : Instr → Nat
  | .mark _ => 0
  | .unselectedTransition _ .mark => 0
  | .indexEdge _ => 1
  | .unselectedTransition _ .index => 1
  | .noMarkLimit _ => 2
  | .lateTimeout _ => 3
  | .phaseRise _ => 4
  | .pulseTimerExpiry _ _ => 5
  | .silenceExpiry _ _ => 6
  | _ => 7

/-- A further part has none of the commands of the parts before it. -/
theorem nodup_append_part {l m : List Instr} {k : Nat} (hl : l.Nodup ∧ ∀ i ∈ l, duePart i < k) (hm : m.Nodup)
    (hpart : ∀ i ∈ m, duePart i = k) : (l ++ m).Nodup ∧ ∀ i ∈ l ++ m, duePart i < k + 1 := by
  refine ⟨hl.1.append hm fun i hi hi' => ?_, fun i hi => ?_⟩
  · exact absurd (hpart i hi') (hl.2 i hi).ne
  · obtain hi | hi := List.mem_append.1 hi
    · exact Nat.lt_succ_of_lt (hl.2 i hi)
    · exact (hpart i hi).trans_lt (Nat.lt_succ_self k)

theorem duePart_of_mem_whenDue {due : Bool} {i j : Instr} (h : j ∈ whenDue due i) : duePart j = duePart i := by
  rw [((mem_whenDue _ _ _).1 h).2]

/-- Events of one kind, one for each of some lines or ports, differ in it. -/
theorem nodup_flatMap_whenDue {α : Type} {l : List α} (hl : l.Nodup) (due : α → Bool) (f : α → Instr)
    (hf : Function.Injective f) : (l.flatMap fun a => whenDue (due a) (f a)).Nodup := by
  refine List.nodup_flatMap.2 ⟨fun a _ => nodup_whenDue _ _, hl.imp fun hne i hi hi' => hne (hf ?_)⟩
  exact ((mem_whenDue _ _ _).1 hi).2.symm.trans ((mem_whenDue _ _ _).1 hi').2

theorem duePart_of_mem_dueRecognition {s : State} {ch : Channel} {i : Instr} (h : i ∈ s.dueRecognition ch) :
    duePart i = duePart (ch.edgeCommand s.now) := by
  obtain ⟨l, -, ⟨-, rfl⟩ | ⟨-, rfl⟩⟩ := (s.mem_dueRecognition ch i).1 h
  · rfl
  · cases ch <;> rfl

/-- Each event is due once: those of one part differ in the line or the port, those of different parts in the
command. -/
theorem State.nodup_dueEvents (s : State) : s.dueEvents.Nodup := by
  have hmark : (s.dueRecognition .mark).Nodup ∧ ∀ i ∈ s.dueRecognition .mark, duePart i < 1 :=
    ⟨s.nodup_dueRecognition .mark, fun i hi => (duePart_of_mem_dueRecognition hi).trans_lt Nat.one_pos⟩
  have hchannels := nodup_append_part hmark (s.nodup_dueRecognition .index) fun i hi => duePart_of_mem_dueRecognition hi
  have hlimit := nodup_append_part hchannels (nodup_whenDue s.noMarkLimitDue (.noMarkLimit s.now))
    fun i hi => duePart_of_mem_whenDue hi
  have htimeout := nodup_append_part hlimit (nodup_whenDue s.lateTimeoutDue (.lateTimeout s.now))
    fun i hi => duePart_of_mem_whenDue hi
  have hrise := nodup_append_part htimeout (nodup_whenDue s.phaseRises (.phaseRise s.now))
    fun i hi => duePart_of_mem_whenDue hi
  have htimers := nodup_append_part hrise
    (nodup_flatMap_whenDue (List.nodup_finRange 16) (fun l => (s.line l).timerDue s.now) (.pulseTimerExpiry s.now)
      fun _ _ h => (Instr.pulseTimerExpiry.inj h).2)
    fun i hi => by
      obtain ⟨l, -, hl⟩ := List.mem_flatMap.1 hi
      exact duePart_of_mem_whenDue hl
  have hsilences := nodup_append_part htimers
    (nodup_flatMap_whenDue (l := allPorts) (by decide) (fun p => s.silenceDue p) (.silenceExpiry s.now)
      fun _ _ h => (Instr.silenceExpiry.inj h).2)
    fun i hi => by
      obtain ⟨p, -, hp⟩ := List.mem_flatMap.1 hi
      exact duePart_of_mem_whenDue hp
  rw [State.dueEvents_eq]
  refine (nodup_append_part hsilences ?_ fun i hi => ?_).1
  · unfold State.dueCompletion
    split
    · exact nodup_whenDue _ _
    · exact List.nodup_nil
  · obtain ⟨v, -, -, rfl⟩ := (s.mem_dueCompletion i).1 hi
    cases v.job with
    | port p j => cases j <;> rfl
    | internal j => cases j <;> rfl

theorem step_of_idle {s : State} (h : s.pending = []) : step s = .next s.tick := by
  unfold step
  rw [h]

/-- Settles O2: the tick queues the due events in the order that the free values choose. -/
theorem idleStepLetsOneTickPass : Obligations.IdleStepLetsOneTickPass := by
  intro s hidle
  have hperm := anyOrder_perm (s.advanceTo (s.now + 1)).dueEvents s.draws
  refine ⟨s.draws + (s.advanceTo (s.now + 1)).dueEvents.length,
    anyOrder s.draws (s.advanceTo (s.now + 1)).dueEvents, ?_, hperm, Nat.max_eq_right (Nat.le_succ _), hperm.nodup_iff.2 (State.nodup_dueEvents _), fun i => ?_⟩
  · rw [step_of_idle hidle]
    simp only [State.tick, State.advanceTo_pending, State.advanceTo_draws, hidle, List.nil_append]
    rfl
  · rw [hperm.mem_iff, State.mem_dueEvents]

end Sys2Proof.Machine
end

section
/-! The requests of the tracker once admitted, and the state after a reset. -/

namespace Sys2Proof.Machine

/-! ### Requests of the tracker -/

/-- An admitted request acts on the state in which its frame was taken. -/
theorem State.request_of_admits {α : Type} {s : State} {p : Port} (h : s.Admits p) (t : Nat) (tag : Tag) (needs : Needs)
    (a : α) (act : α → State → State) (hg : needs.grant = true → s.grant = some p)
    (ht : needs.tracker s.tracker.state = true) :
    (s.takeFrame t p fun v => v.admission p tag 0 needs (some a) act) = act a (s.onlyFrame t p) := by
  rw [State.takeFrame_idle _ _ _ _ h.takes,
    State.admit_ok _ _ _ _ _ _ (fun _ => by simpa using h.opened) (by simpa using hg) (by simpa using ht)]

/-- A restart after time has moved on awaits the next sample, whatever the time brought (R5). -/
theorem ChannelState.restart_settle (c : ChannelState) (t now : Nat) :
    (c.settle t).restart now = { pin := c.pin, filtered := .awaiting now, hold := none, sampled := c.sampled } := by
  simp [ChannelState.restart]

/-- What SET_TRACKER does once admitted: the record, the two channels, and the reply. -/
theorem exec_setTracker_of_admits {t : Nat} {p : Port} {tag : Tag} {body : List Byte} {c : TrackerConfig} {s : State}
    (hadmits : s.Admits p) (hgrant : s.grant = some p) (hstopped : s.tracker.state = .stopped)
    (hbody : parseTrackerConfig body = some c) :
    exec (.setTracker t p tag 0 body) s = .next
      { (s.onlyFrame t p).reply p tag .ok [] with
        tracker := { s.tracker with config := c }
        markChannel := (s.markChannel.settle (max s.now t)).restart (max s.now t)
        indexChannel := (s.indexChannel.settle (max s.now t)).restart (max s.now t) } := by
  have hstate : needsForSet.tracker s.tracker.state = true := by simp [needsForSet, hstopped]
  simp only [exec, execSetTracker, hbody]
  rw [State.request_of_admits hadmits t tag needsForSet c _ (fun _ => hgrant) hstate]
  rfl

/-- Settles O18: the record's bytes are read back, the request is admitted, and the reply is the frame's own. -/
theorem setTrackerReplacesTheRecord : Obligations.SetTrackerReplacesTheRecord := by
  intro t p tag c s hadmits hgrant hstopped hc
  rw [exec_setTracker_of_admits hadmits hgrant hstopped (TrackerConfig.parse_bytes hc), State.onlyFrame_reply,
    ChannelState.restart_settle, ChannelState.restart_settle]

theorem flagByte_isSome {α : Type} [DecidableEq α] (x : Option α) : flagByte x.isSome = if x = none then 0 else 1 := by
  cases x <;> rfl

/-- Settles O21: both requests are admitted in every tracker state and only answer. -/
theorem trackerIsReadWithoutChange : Obligations.TrackerIsReadWithoutChange := by
  intro t p tag s hadmits
  have hread : exec (.readTracker t p tag 0 []) s = .next (s.answers t p tag .ok s.tracker.body) := by
    rw [← State.onlyFrame_reply]
    exact congrArg Host.Outcome.next (State.request_of_admits hadmits t tag {} () _ (fun h => nomatch h) rfl)
  have hhistory : exec (.readHistory t p tag 0 []) s = .next (s.answers t p tag .ok s.tracker.historyBody) := by
    rw [← State.onlyFrame_reply]
    exact congrArg Host.Outcome.next (State.request_of_admits hadmits t tag {} () _ (fun h => nomatch h) rfl)
  refine ⟨?_, hhistory⟩
  rw [hread, Tracker.body, flagByte_isSome]
  cases s.tracker.markPos <;> rfl

/-! ### Reset -/

theorem Transaction.throughReset_eq (x : Transaction) :
    x.throughReset = if x = .none then .none else .ignored := by
  cases x <;> rfl

theorem State.resetAt_port (t : Nat) (mark index hold : Level) (p : Port) :
    (State.resetAt t mark index hold).ports.get p = PortState.atReset := by
  cases p <;> rfl

/-- Settles O4: RESET field by field, the ports one by one, and State.reset as the reset of itself. -/
theorem resetBringsEveryBlockToItsResetValues : Obligations.ResetBringsEveryBlockToItsResetValues := by
  refine ⟨fun t mark index hold s => ?_, fun p => by cases p <;> rfl, rfl⟩
  refine congrArg Host.Outcome.next
    (State.ext_fields _ _ rfl rfl rfl rfl rfl rfl rfl rfl rfl rfl rfl rfl rfl rfl fun p => ?_)
  refine (PerPort.get_mapPort _ _ p).trans (Eq.trans ?_ (PerPort.get_mapPort _ _ p).symm)
  rw [State.resetAt_port, Transaction.throughReset_eq]
  rfl

/-- The lines, the slots, the ports and the engine of `State.reset` as the invariants read them. -/
theorem State.reset_line (l : Line) : State.reset.line l = LineState.released := Bank.get_fill LineState.released l

theorem State.reset_slot (i : EntryId) : State.reset.slot i = none := Bank.get_fill none i

theorem State.reset_port (p : Port) : State.reset.port p = PortState.atReset := State.resetAt_port 0 .low .low .low p

theorem State.reset_waiting (p : Port) : State.reset.engine.waiting.get p = none := by cases p <;> rfl

theorem State.reset_holds_no_job (p : Port) (j : PortJob) : ¬State.reset.engine.Holds p j := by
  rintro (h | ⟨v, h, -⟩)
  · cases (State.reset_waiting p).symm.trans h
  · cases h

theorem PortInv.atReset : PortInv PortState.atReset := by
  constructor <;> simp [PortState.atReset, Attention.atReset, Config.resetQuota]

theorem LinesInv.reset : LinesInv State.reset := by
  constructor <;> intro l <;> rw [State.reset_line] <;> simp [LineState.released]

/-- Nothing is owned, nothing waits and no job is held. -/
theorem OwnershipInv.reset : OwnershipInv State.reset where
  entryLine i e h := by simp [State.reset_slot] at h
  lineOwner l p h := by simp [State.reset_line, LineState.released] at h
  unownedEmpty l _ := by simp [State.reset_line, LineState.released]
  waiterOpen l w h := by simp [State.reset_line, LineState.released] at h
  holderOpen p h := nomatch h
  jobLine p j l h := absurd h (State.reset_holds_no_job p j)
  jobOpen p j h := absurd h (State.reset_holds_no_job p j)
  jobSlot p j h := absurd h (State.reset_holds_no_job p j)
  waitingOpen p j h := by simp [State.reset_waiting] at h
  oneJob p j v h := by simp [State.reset_waiting] at h
  sweepOnce p := by rw [State.reset_port]; rfl
  busy _ := ⟨rfl, State.reset_waiting⟩

/-- Settles O56. -/
theorem resetMeetsTheInvariants : Obligations.ResetMeetsTheInvariants :=
  ⟨State.resetAt_trackerInv 0 .low .low .low, LinesInv.reset, fun p => State.reset_port p ▸ PortInv.atReset,
    OwnershipInv.reset⟩

end Sys2Proof.Machine
end

section
/-! START_TRACKER and STOP_TRACKER once admitted. -/

namespace Sys2Proof.Machine

/-! ### START_TRACKER and STOP_TRACKER -/

/-- The beginning of acquisition (R19). -/
theorem State.startTracker_eq (s : State) :
    s.startTracker =
      { s with
        tracker := { s.tracker.cleared .acquiring with cycle := 0, coast := 0, missed := 0, indexSeen := false }
        ports := s.ports.mapPort fun _ ps =>
          if ps.isOpen && ps.mask.state then
            ps.arrive { phase := none, cycle := 0, payload := .state s.tracker.state .acquiring .start }
          else ps } := rfl

/-- A request that posted a STATE record, and then its reply, on the ports as the frame found them. -/
theorem State.reply_of_posted {s v : State} {t : Nat} {p : Port} {r : Record}
    (hv : v.ports = (s.onlyFrame t p).ports.mapPort fun _ ps =>
      if ps.isOpen && ps.mask.state then ps.arrive r else ps) (tag : Tag) (st : Status) (body : List Byte) :
    v.reply p tag st body =
      { v with
        ports := s.ports.mapPort fun q ps =>
          let ps := if q = p then ps.afterFrame (max s.now t) else ps
          let ps := if ps.isOpen && ps.mask.state then ps.arrive r else ps
          if q = p then ps.replied tag st body else ps } := by
  rw [State.reply_eq]
  apply State.ext_fields <;> try rfl
  intro q
  have hport : ∀ q, v.port q =
      if ((s.onlyFrame t p).port q).isOpen && ((s.onlyFrame t p).port q).mask.state then
        ((s.onlyFrame t p).port q).arrive r
      else (s.onlyFrame t p).port q := fun q => by
    rw [← State.ports_get, hv, PerPort.get_mapPort, State.ports_get]
  simp only [← State.ports_get _ q, PerPort.get_mapPort]
  simp only [State.ports_get, State.setPort_port, hport, State.onlyFrame_port]
  by_cases hq : q = p
  · simp [hq]
  · simp [hq, Ne.symm hq]

/-- Settles O19: the request is admitted, acquisition begins, and the reply follows the record at the port itself. -/
theorem startTrackerBeginsAcquisition : Obligations.StartTrackerBeginsAcquisition := by
  intro t p tag s hadmits hgrant hstate
  have hexec : exec (.startTracker t p tag 0 []) s =
      .next ((s.onlyFrame t p).startTracker.reply p tag .ok []) :=
    congrArg Host.Outcome.next
      (State.request_of_admits hadmits t tag needsForStart () _ (fun _ => hgrant) (by simpa [needsForStart] using hstate))
  rw [hexec, State.startTracker_eq, State.reply_of_posted (s := s) (t := t) rfl]
  rfl

/-- Settles O20: in STOPPED the request only answers, in every other state tracking ends before the reply. -/
theorem stopTrackerEndsTracking : Obligations.StopTrackerEndsTracking := by
  intro t p tag s hadmits hgrant
  have hexec : exec (.stopTracker t p tag 0 []) s =
      .next ((if s.tracker.state = .stopped then s.onlyFrame t p else (s.onlyFrame t p).stopTracker).reply p tag .ok []) :=
    congrArg Host.Outcome.next
      (State.request_of_admits hadmits t tag { grant := true } () _ (fun _ => hgrant) rfl)
  rw [hexec]
  refine ⟨fun hstopped => ?_, fun hother => ?_⟩
  · rw [if_pos hstopped, State.onlyFrame_reply]
  · rw [if_neg hother, State.stopTracker_eq, State.reply_of_posted (s := s) (t := t) rfl]
    by_cases htracks : s.tracker.state = .locked ∨ s.tracker.state = .coasting
    · rw [State.onlyFrame_tracker, if_pos ((TrackerState.tracks_eq_true _).2 htracks), if_pos htracks]
      rfl
    · rw [State.onlyFrame_tracker, if_neg (mt (TrackerState.tracks_eq_true _).1 htracks), if_neg htracks]
      rfl

end Sys2Proof.Machine
end

section
/-! The steps of an accepted or substituted mark: the position it comes to, the boundary it raises, the late timeout and
the phase rise. -/

namespace Sys2Proof.Machine

/-! ### The position a mark comes to -/

theorem Tracker.nextPosition_of_lt {t : Tracker} {k : Nat} (hk : t.markPos = some k) (h : k + 1 < t.config.marks) :
    t.nextPosition = k + 1 := by
  simp [Tracker.nextPosition, hk, h]

theorem Tracker.nextPosition_of_wrap {t : Tracker} {k : Nat} (hk : t.markPos = some k) (h : k + 1 = t.config.marks) :
    t.nextPosition = 0 := by
  simp [Tracker.nextPosition, hk, h]

section
variable {t : Tracker} {k : Nat} (hk : t.markPos = some k)
include hk

/-- Below M with no index pending there is no slip (R35). -/
theorem Tracker.advance_of_plain (h : k + 1 < t.config.marks) (hpending : t.indexPending = false) :
    t.advance = .plain (k + 1) := by
  simp [Tracker.advance, Tracker.nextPosition_of_lt hk h, hpending]

/-- An index pending below M is a slip (R35), which REPORT only reports (R37). -/
theorem Tracker.advance_of_reported (h : k + 1 < t.config.marks) (hpending : t.indexPending = true)
    (hpolicy : t.config.slipPolicy = .report) : t.advance = .reported (k + 1) := by
  simp [Tracker.advance, Tracker.nextPosition_of_lt hk h, hpending, hpolicy]

/-- Under ALIGN the slip takes the position to 0 (R36). -/
theorem Tracker.advance_of_aligned (h : k + 1 < t.config.marks) (hpending : t.indexPending = true)
    (hpolicy : t.config.slipPolicy = .align) : t.advance = .aligned (k + 1) := by
  simp [Tracker.advance, Tracker.nextPosition_of_lt hk h, hpending, hpolicy]

/-- A losing wrap loses tracking (R38). -/
theorem Tracker.advance_of_losingWrap (h : t.losingWrap k) : t.advance = .lost := by
  obtain ⟨hwrap, huse, hseen, hmissed⟩ := h
  simp [Tracker.advance, Tracker.nextPosition_of_wrap hk hwrap, huse, hseen, hmissed]

/-- Any other wrap is natural, with the missed-index count of R38. -/
theorem Tracker.advance_of_wrap (h : k + 1 = t.config.marks) (hlose : ¬t.losingWrap k) :
    t.advance =
      .wrapped (if t.config.indexUse = true then (if t.indexSeen then 0 else 1) else t.missed)
        (decide (t.config.indexUse = true ∧ t.indexSeen = false)) := by
  rw [Tracker.advance, if_pos (Tracker.nextPosition_of_wrap hk h)]
  cases huse : t.config.indexUse
  · rfl
  · cases hseen : t.indexSeen
    · have hmissed : t.missed = 0 := by
        by_contra hne
        exact hlose ⟨h, huse, hseen, hne⟩
      rw [hmissed]
      rfl
    · rfl

/-- Tracking is lost at a losing wrap alone. -/
theorem Tracker.advance_eq_lost (hlt : k < t.config.marks) : t.advance = .lost ↔ t.losingWrap k := by
  refine ⟨fun hlost => ?_, Tracker.advance_of_losingWrap hk⟩
  by_contra hlose
  obtain hnext | hwrap := Nat.lt_or_eq_of_le (Nat.succ_le_of_lt hlt)
  · cases hpending : t.indexPending
    · simp [Tracker.advance_of_plain hk hnext hpending] at hlost
    · cases hpolicy : t.config.slipPolicy
      · simp [Tracker.advance_of_aligned hk hnext hpending hpolicy] at hlost
      · simp [Tracker.advance_of_reported hk hnext hpending hpolicy] at hlost
  · simp [Tracker.advance_of_wrap hk hwrap hlose] at hlost

end

/-! ### The steps of a mark -/

/-- A step without a boundary, with the phase of R29 written out. -/
theorem State.stepPosition_eq {s : State} {r : Reference} (href : s.tracker.reference = some r) (new : TrackerState)
    (cause : StateCause) (pos : Nat) (slip : Option Nat) :
    s.stepPosition new cause pos slip =
      (let ph := phaseFormula s.tracker.config.marks s.tracker.estimate pos (s.now - r.time)
       let moved : State :=
        { s with
          tracker := { s.tracker with state := new, markPos := some pos, indexPending := false, phase := some ph } }
       let told := moved.postChange s.tracker.state new cause
       let slipped :=
        match slip with
        | some k =>
          told.post (toOpen fun ps => ps.mask.slip)
            { phase := s.tracker.phase, cycle := s.tracker.cycle, payload := .slip k 0 }
        | none => told
       slipped.advanceWalk s.tracker.cycle ph) := by
  have hph := Tracker.phaseAt_eq { s.tracker with state := new, markPos := some pos, indexPending := false } r pos s.now
    href rfl
  simp only [State.stepPosition, hph, State.postChange]
  by_cases hsame : s.tracker.state = new
  · simp only [if_pos hsame]
    cases slip <;> rfl
  · simp only [if_neg hsame]
    cases slip <;> rfl

theorem State.postChange_recordNow (s : State) (old new : TrackerState) (cause : StateCause) (x : Payload) :
    (s.postChange old new cause).recordNow x = s.recordNow x := by
  unfold State.postChange
  split <;> rfl

/-- A step with a boundary, with the phase of R29 written out. -/
theorem State.stepBoundary_eq {s : State} {r : Reference} (href : s.tracker.reference = some r) (new : TrackerState)
    (cause : StateCause) (missed : Nat) (report : Bool) (align : Option Nat) :
    s.stepBoundary new cause missed report align =
      (let ph := phaseFormula s.tracker.config.marks s.tracker.estimate 0 (s.now - r.time)
       let opened : State :=
        { s with
          tracker :=
            { s.tracker with
              state := new, markPos := some 0, indexPending := false, indexSeen := false, missed := missed,
              cycle := s.tracker.cycle + 1, phase := some ph } }
       let told := opened.postChange s.tracker.state new cause
       let counted :=
        if report then
          told.post (toOpen fun ps => ps.mask.indexMissed)
            { phase := some ph, cycle := s.tracker.cycle + 1, payload := .indexMissed missed }
        else told
       let bounded :=
        match align with
        | none =>
          (counted.advanceWalk s.tracker.cycle 4095).takeBoundary (s.tracker.estimate * s.tracker.config.marks)
            (s.tracker.cycle + 1) ph none
        | some k =>
          (counted.cutPulses s.tracker.cycle).takeBoundary (s.tracker.estimate * s.tracker.config.marks)
            (s.tracker.cycle + 1) ph (some (k, counted.droppedCount))
       bounded.advanceWalk (s.tracker.cycle + 1) ph) := by
  have hph := Tracker.phaseAt_eq
    { s.tracker with state := new, markPos := some 0, indexPending := false, indexSeen := false, missed := missed,
                     cycle := s.tracker.cycle + 1 } r 0 s.now href rfl
  simp only [State.stepBoundary, hph, State.postChange_recordNow]
  cases align <;> rfl

/-- The cut of an ALIGN slip, line by line (R76). -/
theorem State.cutPulses_eq (s : State) (cycle : Count32) :
    s.cutPulses cycle =
      { s with
        lines := s.lines.map fun l =>
          match l.pulse with
          | .phaseEnd _ _ endPhase c =>
            if c = cycle ∧ s.walkPos.below endPhase = true then { l with active := false, pulse := .none } else l
          | _ => l } := by
  have hline : ∀ l : LineState,
      (match l.endIn cycle with
       | some ph => if s.walkPos.below ph then l.endPulse else l
       | none => l) =
      match l.pulse with
      | .phaseEnd _ _ endPhase c =>
        if c = cycle ∧ s.walkPos.below endPhase = true then { l with active := false, pulse := .none } else l
      | _ => l := by
    intro l
    cases hp : l.pulse with
    | phaseEnd id seq endPhase c => by_cases hc : c = cycle <;> simp [LineState.endIn, hp, hc, LineState.endPulse]
    | none => simp [LineState.endIn, hp]
    | timeEnd => simp [LineState.endIn, hp]
  exact congrArg (fun f => { s with lines := s.lines.map f }) (funext hline)

/-- The entries that an ALIGN slip drops, counted over the slots (R76). -/
theorem State.droppedCount_eq (s : State) :
    s.droppedCount = s.slotsWith fun e => decide (e.status = .active) && s.walkPos.below e.effective := by
  rw [State.droppedCount, State.activeEntries_eq, State.slotsWith]
  generalize List.finRange 128 = ids
  induction ids with
  | nil => rfl
  | cons i ids ih =>
    cases he : s.slot i with
    | none => simpa [List.filterMap_cons, List.filter_cons, he] using ih
    | some e =>
      by_cases hactive : e.status = .active
      · by_cases hbelow : s.walkPos.below e.effective = true <;>
          simpa [List.filterMap_cons, List.filter_cons, he, hactive, hbelow] using ih
      · simpa [List.filterMap_cons, List.filter_cons, he, hactive] using ih

/-- Settles O35: with no index pending the step is plain, and with one, under REPORT, the slip is reported. -/
theorem stepWithoutABoundary : Obligations.StepWithoutABoundary := by
  intro new cause k ph r s href hk hnext hpolicy hph
  subst hph
  cases hpending : s.tracker.indexPending
  · rw [State.stepMark, Tracker.advance_of_plain hk hnext hpending]
    exact State.stepPosition_eq href new cause (k + 1) none
  · rw [State.stepMark, Tracker.advance_of_reported hk hnext hpending (hpolicy hpending)]
    exact State.stepPosition_eq href new cause (k + 1) (some (k + 1))

/-- Settles O37. -/
theorem losingWrapLosesTracking : Obligations.LosingWrapLosesTracking := by
  intro new cause k s hk hlose
  have hstep : s.stepMark new cause = s.stepLost := by rw [State.stepMark, Tracker.advance_of_losingWrap hk hlose]
  rw [hstep, State.stepLost, State.loseTracking_eq]
  rfl

/-- Settles O36: a natural wrap walks the old cycle to its end, an ALIGN slip cuts it, and both take the boundary. -/
theorem boundaryIsHandedOverInThreeParts : Obligations.BoundaryIsHandedOverInThreeParts := by
  intro new cause k ph r s href hk hph
  subst hph
  refine ⟨fun hwrap hlose => ?_, fun hnext hpending hpolicy => ?_⟩
  · rw [State.stepMark, Tracker.advance_of_wrap hk hwrap hlose]
    refine (State.stepBoundary_eq href ..).trans ?_
    by_cases hmissed : s.tracker.config.indexUse = true ∧ s.tracker.indexSeen = false
    · simp only [hmissed]
      rfl
    · simp only [hmissed]
      rfl
  · rw [State.stepMark, Tracker.advance_of_aligned hk hnext hpending hpolicy]
    refine (State.stepBoundary_eq href ..).trans ?_
    simp only [State.cutPulses_eq, State.droppedCount_eq, State.postChange]
    by_cases hsame : s.tracker.state = new
    · simp only [if_pos hsame]
      rfl
    · simp only [if_neg hsame]
      rfl

/-! ### The late timeout and the phase rise -/

/-- A substitution takes the steps of a mark, and posts MARK_SUBSTITUTED last unless tracking was lost (R26, R38). -/
theorem State.substituteMark_eq {s : State} {r : Reference} {k : Nat} (href : s.tracker.reference = some r)
    (hk : s.tracker.markPos = some k) (hlt : k < s.tracker.config.marks) :
    (s.tracker.losingWrap k →
      s.substituteMark = (s.setTracker (s.tracker.substituted r)).stepMark .coasting .coast) ∧
    (¬s.tracker.losingWrap k →
      s.substituteMark =
        (let u := (s.setTracker (s.tracker.substituted r)).stepMark .coasting .coast
         u.post (toOpen fun ps => ps.mask.markSubstituted) (u.stamp (.markSubstituted (s.tracker.coast + 1))))) := by
  have hlost : (s.tracker.substituted r).advance = .lost ↔ s.tracker.losingWrap k :=
    Tracker.advance_eq_lost (t := s.tracker.substituted r) hk hlt
  simp only [State.substituteMark, Tracker.substitute_eq _ r href]
  refine ⟨fun hlose => ?_, fun hlose => ?_⟩
  · rw [hlost.2 hlose]
    rfl
  · cases hadv : (s.tracker.substituted r).advance with
    | lost => exact absurd (hlost.1 hadv) hlose
    | plain | reported | aligned | wrapped => rfl

/-- Settles O40. -/
theorem lateTimeoutSubstitutesOrLosesTracking : Obligations.LateTimeoutSubstitutesOrLosesTracking := by
  intro t k r s hst href hk hlt hlate
  have hdue : (s.advanceTo t).lateTimeoutDue = true := (State.lateTimeoutDue_eq_true _).2 ⟨hst, r, href, hlate⟩
  obtain ⟨hlosing, hkept⟩ := State.substituteMark_eq (s := s.advanceTo t) href hk hlt
  refine ⟨fun hcoast => ⟨_, rfl, fun hlose => ?_, fun hlose => ?_⟩, fun hlimit => ?_⟩
  · exact congrArg Host.Outcome.next ((if_pos hdue).trans ((if_pos hcoast).trans (hlosing hlose)))
  · exact congrArg Host.Outcome.next ((if_pos hdue).trans ((if_pos hcoast).trans (hkept hlose)))
  · exact congrArg Host.Outcome.next
      ((if_pos hdue).trans ((if_neg (not_lt.2 hlimit)).trans (State.loseTracking_eq _ _)))

/-- Settles O41: the phase of R29 has its bounds, and the rise is due exactly where it is above the present phase. -/
theorem phaseRisesAsElapsedTime : Obligations.PhaseRisesAsElapsedTime := by
  intro t k a ph r s hst href hk ha hph
  have hnow : (s.advanceTo t).tracker.phaseNow (s.advanceTo t).now = ph := by
    simp [Tracker.phaseNow, href, hk, hph]
  refine ⟨fun hmarks hlt => hph ▸ phaseFormula_bounds _ _ _ _ hmarks hlt, fun hrise => ?_, fun hstay => ?_⟩
  · have hdue : (s.advanceTo t).phaseRises = true :=
      (State.phaseRises_eq_true _).2 ⟨hst, a, ha, hnow.symm ▸ hrise⟩
    subst hnow
    exact congrArg Host.Outcome.next (if_pos hdue)
  · refine exec_phaseRise_of_not_due fun hdue => ?_
    obtain ⟨-, a', ha', hlt⟩ := (State.phaseRises_eq_true _).1 hdue
    cases ha.symm.trans ha'
    omega

end Sys2Proof.Machine
end

section
/-! What a boundary makes of the entries and the lines, and the records it posts to each port. -/

namespace Sys2Proof.Machine

/-! ### Effective phases -/

/-- ceil(lead × 4096 / P) is the least k with lead × 4096 ≤ k × P (R52). -/
theorem leadCounts_eq {lead period k : Nat} (hperiod : 1 ≤ period) (hle : lead * 4096 ≤ k * period)
    (hleast : ∀ j < k, j * period < lead * 4096) : leadCounts lead period = k := by
  rw [leadCounts, Config.phaseCounts, Nat.div_eq_iff (by omega)]
  cases k with
  | zero => omega
  | succ j =>
    have hj := hleast j (Nat.lt_succ_self j)
    rw [Nat.succ_mul] at hle ⊢
    omega

theorem Entry.atBoundary_of_spent {e : Entry} (h : e.status = .spent) (period : Nat) : e.atBoundary period = e := by
  simp [Entry.atBoundary, Entry.promote, Entry.compute, h]

/-- PENDING and ACTIVE entries are ACTIVE with the effective phase of R52. -/
theorem Entry.atBoundary_of_not_spent {e : Entry} (h : e.status ≠ .spent) (period : Nat) :
    e.atBoundary period =
      { e with
        status := .active
        effective := e.fields.trigger - leadCounts e.fields.lead period
        clamped := decide (e.fields.trigger < leadCounts e.fields.lead period) } := by
  have hpromote : e.promote = { e with status := .active } := by
    obtain ⟨owner, fields, status, seq, effective, clamped⟩ := e
    cases status with
    | spent => exact absurd rfl h
    | pending | active => rfl
  rw [Entry.atBoundary, hpromote, Entry.compute, if_pos rfl]
  split
  · rename_i hlt
    simp [hlt, Nat.sub_eq_zero_of_le hlt.le]
  · rename_i hlt
    simp [hlt]

/-! ### Records in an order of the model's choice -/

theorem insertAt_map {α β : Type} (f : α → β) (k : Nat) (a : α) (l : List α) :
    insertAt k (f a) (l.map f) = (insertAt k a l).map f := by
  simp [insertAt, List.map_take, List.map_drop]

theorem anyOrder_map {α β : Type} (f : α → β) : ∀ (l : List α) (n : Nat), anyOrder n (l.map f) = (anyOrder n l).map f
  | [], _ => rfl
  | [_], _ => rfl
  | a :: b :: l, n => by
    have ih := anyOrder_map f (b :: l) (n + 1)
    simp only [List.map_cons] at ih ⊢
    rw [anyOrder, ih, insertAt_map, anyOrder, List.length_map]

/-- Records posted port by port: each port's own arrive there in some order unless its session is CLOSED, and nothing
else but the draws changes. -/
theorem State.foldl_postUnordered (recs : Port → List Record) : ∀ (ports : List Port) (s : State), ports.Nodup →
    ∃ (draws : Nat) (ps : PerPort PortState),
      ports.foldl (fun st p => st.postUnordered p (recs p)) s = { s with draws := draws, ports := ps } ∧
      ∀ q, ∃ n, ps.get q =
        if q ∈ ports ∧ (s.port q).isClosed = false then (anyOrder n (recs q)).foldl PortState.arrive (s.port q)
        else s.port q
  | [], s, _ => ⟨s.draws, s.ports, rfl, fun q => ⟨0, by simp [State.ports_get]⟩⟩
  | p :: ports, s, hnodup => by
    obtain ⟨hp, hnodup⟩ := List.nodup_cons.1 hnodup
    obtain ⟨draws, ps, heq, hget⟩ := State.foldl_postUnordered recs ports (s.postUnordered p (recs p)) hnodup
    have hport : ∀ q, (s.postUnordered p (recs p)).port q =
        if q = p ∧ (s.port q).isClosed = false then (anyOrder s.draws (recs p)).foldl PortState.arrive (s.port q)
        else s.port q := fun q => by
      rw [State.postUnordered_eq]
      exact PerPort.get_mapPort _ _ q
    refine ⟨draws, ps, ?_, fun q => ?_⟩
    · rw [List.foldl_cons, heq, State.postUnordered_eq]
    · obtain ⟨n, hn⟩ := hget q
      rw [hn, hport]
      by_cases hq : q = p
      · subst hq
        exact ⟨s.draws, by simp [hp]⟩
      · exact ⟨n, by simp [hq]⟩

/-! ### The boundary -/

/-- The part at a boundary before its records are posted: entries promoted and computed, READY lines in RUN where HOLD
allows, the walk position before 0 (R49, R52, R75, R103). -/
def State.enterCycle (s : State) (period : Nat) : State :=
  { s with
    slots := s.slots.map fun o => o.map (Entry.atBoundary period)
    lines := if s.holdReleased then s.lines.map LineState.enterRun else s.lines
    walkPos := .before0 }

theorem State.ite_enterRun (u : State) :
    (if u.holdReleased then u.setLines (u.lines.map LineState.enterRun) else u) =
      u.setLines (if u.holdReleased then u.lines.map LineState.enterRun else u.lines) := by
  split <;> rfl

theorem State.takeBoundary_eq_foldl (s : State) (period : Nat) (cycle : Count32) (ph : Nat)
    (slip : Option (Nat × Nat)) :
    s.takeBoundary period cycle ph slip =
      allPorts.foldl (fun st p => st.postUnordered p (s.boundaryRecords period cycle ph slip p))
        (s.enterCycle period) := by
  unfold State.takeBoundary
  dsimp only
  rw [State.ite_enterRun]
  rfl

/-- A boundary is the new cycle entered, with draws taken and the records of each port arrived in some order. -/
theorem State.takeBoundary_eq (s : State) (period : Nat) (cycle : Count32) (ph : Nat) (slip : Option (Nat × Nat)) :
    ∃ (draws : Nat) (ports : PerPort PortState),
      s.takeBoundary period cycle ph slip = { s.enterCycle period with draws := draws, ports := ports } ∧
      ∀ q, ∃ n, ports.get q =
        if (s.port q).isClosed = false then
          (anyOrder n (s.boundaryRecords period cycle ph slip q)).foldl PortState.arrive (s.port q)
        else s.port q := by
  have hall : ∀ q, q ∈ allPorts := fun q => by cases q <;> decide
  obtain ⟨draws, ports, heq, hget⟩ :=
    State.foldl_postUnordered (s.boundaryRecords period cycle ph slip) allPorts (s.enterCycle period) (by decide)
  refine ⟨draws, ports, (s.takeBoundary_eq_foldl ..).trans heq, fun q => ?_⟩
  obtain ⟨n, hn⟩ := hget q
  simp only [hall, true_and] at hn
  exact ⟨n, hn⟩

theorem State.takeBoundary_slot (s : State) (period : Nat) (cycle : Count32) (ph : Nat) (slip : Option (Nat × Nat))
    (i : EntryId) :
    (s.takeBoundary period cycle ph slip).slot i = (s.slot i).map (Entry.atBoundary period) := by
  obtain ⟨draws, ports, heq, -⟩ := s.takeBoundary_eq period cycle ph slip
  rw [heq]
  exact Bank.get_map _ _ i

theorem State.takeBoundary_line (s : State) (period : Nat) (cycle : Count32) (ph : Nat) (slip : Option (Nat × Nat))
    (l : Line) :
    (s.takeBoundary period cycle ph slip).line l = if s.holdReleased then (s.line l).enterRun else s.line l := by
  obtain ⟨draws, ports, heq, -⟩ := s.takeBoundary_eq period cycle ph slip
  rw [heq]
  change (if s.holdReleased then s.lines.map LineState.enterRun else s.lines).get l = _
  split
  · exact Bank.get_map _ _ l
  · rfl

/-- The payloads of a boundary to one port arrive in some order, with the new cycle and phase, unless the session is
CLOSED (R150). -/
theorem State.takeBoundary_port (s : State) (period : Nat) (cycle : Count32) (ph : Nat) (slip : Option (Nat × Nat))
    (q : Port) :
    ((s.port q).isClosed = true → (s.takeBoundary period cycle ph slip).port q = s.port q) ∧
    ((s.port q).isClosed = false →
      ∃ recs : List Payload,
        recs.Perm ((s.port q).slipRecords slip ++ s.leadLimits period q ++ (s.port q).cycleRecords cycle) ∧
        (s.takeBoundary period cycle ph slip).port q =
          recs.foldl (fun ps x => ps.arrive { phase := some ph, cycle := cycle, payload := x }) (s.port q)) := by
  obtain ⟨draws, ports, heq, hget⟩ := s.takeBoundary_eq period cycle ph slip
  obtain ⟨n, hn⟩ := hget q
  have hport : (s.takeBoundary period cycle ph slip).port q = ports.get q := by rw [heq]; rfl
  rw [hport, hn]
  refine ⟨fun hclosed => by rw [if_neg (by simp [hclosed])], fun hopen => ?_⟩
  refine ⟨anyOrder n ((s.port q).slipRecords slip ++ s.leadLimits period q ++ (s.port q).cycleRecords cycle),
    anyOrder_perm _ _, ?_⟩
  rw [if_pos hopen, State.boundaryRecords, anyOrder_map, List.foldl_map]

/-- The LEAD_LIMIT records of a port, by what the boundary makes of each of its entries (R53). -/
theorem State.leadLimits_eq (s : State) (period : Nat) (cycle : Count32) (ph : Nat) (slip : Option (Nat × Nat))
    (q : Port) :
    s.leadLimits period q =
      (List.finRange 128).filterMap fun i =>
        match s.slot i, (s.takeBoundary period cycle ph slip).slot i with
        | some e, some e' =>
          if e.owner = q ∧ e.clamped = false ∧ e'.clamped = true then
            some (.leadLimit i e.fields.line e.fields.label)
          else none
        | _, _ => none := by
  rw [State.leadLimits, Bank.indexed_eq, List.filterMap_map]
  refine List.filterMap_congr fun i _ => ?_
  rw [State.takeBoundary_slot]
  simp only [Function.comp, State.slots_get]
  cases s.slot i <;> rfl

theorem PortState.slipRecords_eq (ps : PortState) (slip : Option (Nat × Nat)) :
    ps.slipRecords slip =
      match slip with
      | some (k, dropped) => if ps.isOpen && ps.mask.slip then [.slip k dropped] else []
      | none => [] := by
  cases slip with
  | none => rfl
  | some x =>
    obtain ⟨k, dropped⟩ := x
    simp [PortState.slipRecords]

/-- Settles O45: the entries, the lines and the ports one by one, and the rest from what a boundary makes of the state. -/
theorem boundaryPromotesComputesAndRuns : Obligations.BoundaryPromotesComputesAndRuns := by
  intro period cycle ph slip s hperiod
  have hslot := s.takeBoundary_slot period cycle ph slip
  obtain ⟨draws, ports, heq, -⟩ := s.takeBoundary_eq period cycle ph slip
  refine ⟨_, rfl, fun i hi => ?_, fun i e hi hspent => ?_, fun i e k hi hspent hle hleast => ?_, fun l => ?_, ?_,
    fun q => (s.takeBoundary_port period cycle ph slip q).1, fun q hq => ?_, ?_⟩
  · rw [hslot, hi]
    rfl
  · rw [hslot, hi, Option.map_some, Entry.atBoundary_of_spent hspent]
  · rw [hslot, hi, Option.map_some, Entry.atBoundary_of_not_spent hspent, leadCounts_eq hperiod hle hleast]
  · rw [State.takeBoundary_line, LineState.enterRun_eq]
    by_cases hmode : (s.line l).mode = .ready <;> simp [State.holdReleased, hmode]
  · rw [heq]
    rfl
  · obtain ⟨recs, hperm, hport⟩ := (s.takeBoundary_port period cycle ph slip q).2 hq
    rw [s.leadLimits_eq period cycle ph slip q] at hperm
    rw [PortState.slipRecords_eq] at hperm
    exact ⟨recs, hperm, hport⟩
  · rw [heq]
    exact ⟨rfl, rfl, rfl, rfl, rfl, rfl, rfl, rfl, rfl, rfl⟩

end Sys2Proof.Machine
end

section
/-! The bodies of the requests on the wire: each field read exactly from its byte, and each body from its fields. -/

namespace Sys2Proof.Machine

/-! ### Fields -/

/-- A byte holds a number up to 255 exactly where it is that number's byte. -/
theorem byte_toNat_eq_iff {n : Nat} (b : Byte) (h : n ≤ 255) : b.toNat = n ↔ b = BitVec.ofNat 8 n := by
  refine ⟨fun hb => ?_, fun hb => hb ▸ toNat_ofNat_byte h⟩
  rw [← hb, BitVec.ofNat_toNat, BitVec.setWidth_eq]

/-- A range field is read where the number is in range and the byte is its byte. -/
theorem inRange_byte {lo hi : Nat} (h : hi ≤ 255) (b : Byte) (n : Nat) :
    inRange lo hi b.toNat = some n ↔ (lo ≤ n ∧ n ≤ hi) ∧ b = BitVec.ofNat 8 n := by
  rw [inRange_eq_some]
  constructor
  · rintro ⟨hrange, rfl⟩
    exact ⟨hrange, by simp⟩
  · rintro ⟨hrange, rfl⟩
    rw [toNat_ofNat_byte (hrange.2.trans h)]
    exact ⟨hrange, rfl⟩

/-- A little-endian field of two bytes holds a number up to 65,535 exactly where they are that number's bytes (R159). -/
theorem leValue_two_eq_iff {n : Nat} (b0 b1 : Byte) (h : n ≤ 65535) :
    leValue [b0, b1] = n ↔ [b0, b1] = leBytes 2 n := by
  have h0 := b0.isLt
  have h1 := b1.isLt
  simp only [leValue, leBytes, List.cons.injEq, and_true, ← BitVec.toNat_inj, BitVec.toNat_ofNat]
  omega

theorem leValue_two_le (b0 b1 : Byte) : leValue [b0, b1] ≤ 65535 := by
  have h0 := b0.isLt
  have h1 := b1.isLt
  simp only [leValue]
  omega

theorem inRange_leValue {lo hi : Nat} (h : hi ≤ 65535) (b0 b1 : Byte) (n : Nat) :
    inRange lo hi (leValue [b0, b1]) = some n ↔ (lo ≤ n ∧ n ≤ hi) ∧ [b0, b1] = leBytes 2 n := by
  rw [inRange_eq_some]
  constructor
  · rintro ⟨hrange, rfl⟩
    exact ⟨hrange, (leValue_two_eq_iff b0 b1 (leValue_two_le b0 b1)).1 rfl⟩
  · rintro ⟨hrange, hbytes⟩
    have hvalue := (leValue_two_eq_iff b0 b1 (hrange.2.trans h)).2 hbytes
    exact ⟨hvalue ▸ hrange, hvalue⟩

theorem parseLine_eq_some (b : Byte) (l : Line) : parseLine b = some l ↔ b = BitVec.ofNat 8 l.val := by
  have hl := l.isLt
  rw [← byte_toNat_eq_iff b (by omega), parseLine]
  split <;> simp [Fin.ext_iff]
  omega

theorem parseId_eq_some (b : Byte) (i : EntryId) : parseId b = some i ↔ b = BitVec.ofNat 8 i.val := by
  have hi := i.isLt
  rw [← byte_toNat_eq_iff b (by omega), parseId]
  split <;> simp [Fin.ext_iff]
  omega

theorem portOfCode_eq_some (n : Nat) (p : Port) : portOfCode n = some p ↔ n = portCode p := by
  refine ⟨fun h => ?_, fun h => ?_⟩
  · unfold portOfCode at h
    split at h <;> cases h <;> rfl
  · subst h
    cases p <;> rfl

theorem parseEdge_eq_some (n : Nat) (e : Edge) : parseEdge n = some e ↔ n = edgeCode e := by
  refine ⟨fun h => ?_, fun h => ?_⟩
  · unfold parseEdge at h
    split at h <;> cases h <;> rfl
  · subst h
    cases e <;> rfl

theorem parseNotify_eq_some (n : Nat) (x : Bool) : parseNotify n = some x ↔ n = x.toNat := by
  refine ⟨fun h => ?_, fun h => ?_⟩
  · unfold parseNotify at h
    split at h <;> cases h <;> rfl
  · subst h
    cases x <;> rfl

theorem parseFlag_eq_some (b : Byte) (x : Bool) : parseFlag b = some x ↔ b = flagByte x := by
  refine ⟨fun h => ?_, fun h => h ▸ parseFlag_flagByte x⟩
  unfold parseFlag at h
  split at h <;> cases h <;> rename_i hb <;> exact (byte_toNat_eq_iff b (by decide)).1 hb

theorem parseSlipPolicy_eq_some (b : Byte) (x : SlipPolicy) :
    parseSlipPolicy b = some x ↔ b = BitVec.ofNat 8 (slipPolicyCode x) := by
  refine ⟨fun h => ?_, fun h => h ▸ parseSlipPolicy_code x⟩
  unfold parseSlipPolicy at h
  split at h <;> cases h <;> rename_i hb <;> exact (byte_toNat_eq_iff b (by decide)).1 hb

theorem parsePolarity_eq_some (b : Byte) (x : Polarity) :
    parsePolarity b = some x ↔ b = match x with | .activeHigh => 0#8 | .activeLow => 1#8 := by
  refine ⟨fun h => ?_, fun h => ?_⟩
  · unfold parsePolarity at h
    split at h <;> cases h <;> rename_i hb <;> exact (byte_toNat_eq_iff b (by decide)).1 hb
  · subst h
    cases x <;> rfl

theorem parseSafeLevel_eq_some (b : Byte) (x : Drive) :
    parseSafeLevel b = some x ↔ b = match x with | .low => 0#8 | .high => 1#8 | .float => 2#8 := by
  refine ⟨fun h => ?_, fun h => ?_⟩
  · unfold parseSafeLevel at h
    split at h <;> cases h <;> rename_i hb <;> exact (byte_toNat_eq_iff b (by decide)).1 hb
  · subst h
    cases x <;> rfl

/-- A byte below 32 is made of its five low bits. -/
theorem byte_of_low_bits {b : Byte} (h : b.toNat < 32) :
    b = BitVec.ofNat 8 ((b.getLsbD 0).toNat + 2 * (b.getLsbD 1).toNat + 4 * (b.getLsbD 2).toNat +
      8 * (b.getLsbD 3).toNat + 16 * (b.getLsbD 4).toNat) := by
  refine (byte_toNat_eq_iff b ?_).1 ?_ <;> simp only [BitVec.getLsbD, Nat.toNat_testBit] <;> omega

theorem CauseSet.parse_byte (c : CauseSet) : parseCauses c.byte = some c := by
  obtain ⟨watermark, nonempty, reply, tracker, line⟩ := c
  revert watermark nonempty reply tracker line
  decide

/-- Five causes in the five low bits; bits 5 to 7 reserved (log entry 9). -/
theorem parseCauses_eq_some (b : Byte) (c : CauseSet) : parseCauses b = some c ↔ b = c.byte := by
  refine ⟨fun h => ?_, fun h => h ▸ c.parse_byte⟩
  unfold parseCauses at h
  split at h
  · rename_i hlow
    cases h
    exact byte_of_low_bits hlow
  · cases h

/-! ### The actions and filters of an entry -/

/-- A width in the range of its kind (R45, Table 3-1). -/
def Action.Legal (x : Action) : Prop :=
  (∀ w, x = .pulse .phase w → 1 ≤ w ∧ w ≤ 4095) ∧ ∀ w, x = .pulse .time w → 1 ≤ w ∧ w ≤ 65535

/-- N and offset in their ranges (R45, Table 3-1). -/
def CycleFilter.Legal (x : CycleFilter) : Prop := ∀ n off, x = .nth n off → 2 ≤ n ∧ n ≤ 255 ∧ off < n

theorem EntryFields.legal_iff (f : EntryFields) :
    f.Legal ↔ f.trigger ≤ 4095 ∧ f.action.Legal ∧ f.lead ≤ 65535 ∧ f.filter.Legal :=
  ⟨fun h => ⟨h.trigger, ⟨h.phaseWidth, h.timeWidth⟩, h.lead, h.nth⟩,
    fun ⟨htrigger, ⟨hphase, htime⟩, hlead, hnth⟩ => ⟨htrigger, hphase, htime, hlead, hnth⟩⟩

/-- An action is read exactly from its codes with a legal width (R45). -/
theorem parseAction_eq_some (action kind width : Nat) (x : Action) :
    parseAction action kind width = some x ↔ (action, kind, width) = x.codes ∧ x.Legal := by
  refine ⟨fun h => ?_, fun ⟨hcodes, hphase, htime⟩ => ?_⟩
  · unfold parseAction at h
    split at h
    · split at h <;> cases h
      subst width
      exact ⟨rfl, by simp [Action.Legal]⟩
    · split at h <;> cases h
      subst width
      exact ⟨rfl, by simp [Action.Legal]⟩
    · obtain ⟨w, hw, rfl⟩ := Option.map_eq_some_iff.1 h
      obtain ⟨hrange, rfl⟩ := (inRange_eq_some _ _ _ _).1 hw
      exact ⟨rfl, by simpa [Action.Legal] using hrange⟩
    · obtain ⟨w, hw, rfl⟩ := Option.map_eq_some_iff.1 h
      obtain ⟨hrange, rfl⟩ := (inRange_eq_some _ _ _ _).1 hw
      exact ⟨rfl, by simpa [Action.Legal] using hrange⟩
    · cases h
  · cases x with
    | set => cases hcodes; rfl
    | clear => cases hcodes; rfl
    | pulse kind w =>
      cases kind with
      | phase =>
        cases hcodes
        rw [parseAction, (inRange_eq_some _ _ _ _).2 ⟨hphase _ rfl, rfl⟩, Option.map_some]
      | time =>
        cases hcodes
        rw [parseAction, (inRange_eq_some _ _ _ _).2 ⟨htime _ rfl, rfl⟩, Option.map_some]

/-- A filter is read exactly from its codes with a legal N and offset (R45). -/
theorem parseFilter_eq_some {n : Nat} (hn : n ≤ 255) (filter off : Nat) (x : CycleFilter) :
    parseFilter filter n off = some x ↔ (filter, n, off) = x.codes ∧ x.Legal := by
  refine ⟨fun h => ?_, fun ⟨hcodes, hlegal⟩ => ?_⟩
  · unfold parseFilter at h
    split at h
    · split at h <;> cases h
      rename_i hzero
      obtain ⟨rfl, rfl⟩ := hzero
      exact ⟨rfl, by simp [CycleFilter.Legal]⟩
    · split at h <;> cases h
      rename_i hrange
      exact ⟨rfl, by simp [CycleFilter.Legal, hrange, hn]⟩
    · split at h <;> cases h
      rename_i hzero
      obtain ⟨rfl, rfl⟩ := hzero
      exact ⟨rfl, by simp [CycleFilter.Legal]⟩
    · cases h
  · cases x with
    | every => cases hcodes; rfl
    | once => cases hcodes; rfl
    | nth n off =>
      cases hcodes
      obtain ⟨hlow, -, hoff⟩ := hlegal _ _ rfl
      exact if_pos ⟨hlow, hoff⟩

theorem Action.codes_le {x : Action} (h : x.Legal) : x.codes.1 ≤ 3 ∧ x.codes.2.1 ≤ 3 ∧ x.codes.2.2 ≤ 65535 := by
  obtain ⟨hphase, htime⟩ := h
  cases x with
  | set => decide
  | clear => decide
  | pulse kind w =>
    cases kind with
    | phase =>
      have hw := hphase w rfl
      simp only [Action.codes]
      omega
    | time =>
      have hw := htime w rfl
      simp only [Action.codes]
      omega

theorem CycleFilter.codes_le {x : CycleFilter} (h : x.Legal) :
    x.codes.1 ≤ 3 ∧ x.codes.2.1 ≤ 255 ∧ x.codes.2.2 ≤ 255 := by
  cases x with
  | every => decide
  | once => decide
  | nth n off =>
    have hn := h n off rfl
    simp only [CycleFilter.codes]
    omega

/-- The coding byte of Table 9-4 holds four codes of two bits. -/
theorem coding_eq_iff {a k f n : Nat} (c : Byte) (ha : a ≤ 3) (hk : k ≤ 3) (hf : f ≤ 3) (hn : n ≤ 3) :
    c = BitVec.ofNat 8 (a + 4 * k + 16 * f + 64 * n) ↔
      c.toNat % 4 = a ∧ c.toNat / 4 % 4 = k ∧ c.toNat / 16 % 4 = f ∧ c.toNat / 64 = n := by
  have hc := c.isLt
  rw [← byte_toNat_eq_iff c (by omega)]
  omega

theorem label_eq_iff (b0 b1 : Byte) (label : BitVec 16) :
    BitVec.ofNat 16 (leValue [b0, b1]) = label ↔ [b0, b1] = leBytes 2 label.toNat := by
  have hlabel := label.isLt
  have hvalue := leValue_two_le b0 b1
  rw [← leValue_two_eq_iff b0 b1 (by omega), ← BitVec.toNat_inj, BitVec.toNat_ofNat,
    Nat.mod_eq_of_lt (by omega)]

/-! ### Bodies of one to four bytes -/

theorem parseOpenSession_eq_some (body : List Byte) (limit : Nat) :
    parseOpenSession body = some limit ↔ (10 ≤ limit ∧ limit ≤ 60000) ∧ body = leBytes 2 limit := by
  refine ⟨fun h => ?_, fun ⟨hrange, hbody⟩ => ?_⟩
  · unfold parseOpenSession at h
    split at h
    · exact (inRange_leValue (by decide) _ _ _).1 h
    · cases h
  · subst hbody
    exact (inRange_leValue (by decide) _ _ _).2 ⟨hrange, rfl⟩

theorem parseSetQuota_eq_some (body : List Byte) (p : Port) (quota : Nat) :
    parseSetQuota body = some (p, quota) ↔
      quota ≤ 128 ∧ body = [BitVec.ofNat 8 (portCode p), BitVec.ofNat 8 quota] := by
  have hcode : portCode p ≤ 255 := by cases p <;> decide
  refine ⟨fun h => ?_, fun ⟨hquota, hbody⟩ => ?_⟩
  · unfold parseSetQuota at h
    split at h
    · split at h <;> cases h
      rename_i hport hrange
      obtain ⟨⟨-, hquota⟩, rfl⟩ := (inRange_byte (by decide) _ _).1 hrange
      rw [(byte_toNat_eq_iff _ hcode).1 ((portOfCode_eq_some _ _).1 hport)]
      exact ⟨hquota, rfl⟩
    · cases h
  · subst hbody
    simp only [parseSetQuota, (portOfCode_eq_some _ _).2 (toNat_ofNat_byte hcode),
      (inRange_byte (by decide) _ _).2 ⟨⟨Nat.zero_le _, hquota⟩, rfl⟩]

theorem parseClaim_cons (l pol safe wait : Byte) (a : ClaimArgs) :
    parseClaim [l, pol, safe, wait] = some a ↔
      l = BitVec.ofNat 8 a.line.val ∧ (pol = match a.polarity with | .activeHigh => 0#8 | .activeLow => 1#8) ∧
        (safe = match a.safeLevel with | .low => 0#8 | .high => 1#8 | .float => 2#8) ∧ wait = flagByte a.wait := by
  simp only [parseClaim, Option.bind_eq_bind, Option.bind_eq_some_iff, parseLine_eq_some, parsePolarity_eq_some,
    parseSafeLevel_eq_some, parseFlag_eq_some, Option.some.injEq]
  refine ⟨?_, fun ⟨hl, hpol, hsafe, hwait⟩ => ⟨_, hl, _, hpol, _, hsafe, _, hwait, rfl⟩⟩
  rintro ⟨_, hl, _, hpol, _, hsafe, _, hwait, rfl⟩
  exact ⟨hl, hpol, hsafe, hwait⟩

theorem parseClaim_eq_some (body : List Byte) (a : ClaimArgs) : parseClaim body = some a ↔ body = a.bytes := by
  refine ⟨fun h => ?_, fun h => h ▸ (parseClaim_cons _ _ _ _ a).2 ⟨rfl, rfl, rfl, rfl⟩⟩
  match body with
  | [l, pol, safe, wait] =>
    obtain ⟨rfl, rfl, rfl, rfl⟩ := (parseClaim_cons l pol safe wait a).1 h
    rfl
  | [] | [_] | [_, _] | [_, _, _] | _ :: _ :: _ :: _ :: _ :: _ => cases h

theorem parseLineBody_eq_some (body : List Byte) (l : Line) :
    parseLineBody body = some l ↔ body = [BitVec.ofNat 8 l.val] := by
  unfold parseLineBody
  split
  · simp [parseLine_eq_some]
  · rename_i hbody
    simpa using hbody _

theorem parseLineMode_eq_some (body : List Byte) (l : Line) (run : Bool) :
    parseLineMode body = some (l, run) ↔ body = [BitVec.ofNat 8 l.val, if run then 3 else 1] := by
  refine ⟨fun h => ?_, fun hbody => ?_⟩
  · unfold parseLineMode at h
    split at h
    · split at h <;> cases h
      · rename_i hmode hline
        rw [(parseLine_eq_some _ _).1 hline, (byte_toNat_eq_iff _ (by decide)).1 hmode]
        rfl
      · rename_i hmode hline
        rw [(parseLine_eq_some _ _).1 hline, (byte_toNat_eq_iff _ (by decide)).1 hmode]
        rfl
    · cases h
  · subst hbody
    cases run <;> simp only [parseLineMode, (parseLine_eq_some _ l).2 rfl] <;> rfl

theorem parseIdBody_eq_some (body : List Byte) (id : EntryId) :
    parseIdBody body = some id ↔ body = [BitVec.ofNat 8 id.val] := by
  unfold parseIdBody
  split
  · simp [parseId_eq_some]
  · rename_i hbody
    simpa using hbody _

theorem parseCount_eq_some (body : List Byte) (n : Nat) :
    parseCount body = some n ↔ (1 ≤ n ∧ n ≤ 4) ∧ body = [BitVec.ofNat 8 n] := by
  unfold parseCount
  split
  · rw [inRange_byte (by decide), List.cons.injEq, and_iff_left rfl]
  · rename_i hbody
    simpa using fun _ _ => hbody _

theorem EventMask.parse_byte (m : EventMask) (b : Byte) :
    parseEventMask [m.byte, b] = some (m, b.toNat) := by
  have hlow : m.byte.toNat < 32 ∧
      { state := m.byte.getLsbD 0, markRejected := m.byte.getLsbD 1, markSubstituted := m.byte.getLsbD 2,
        slip := m.byte.getLsbD 3, indexMissed := m.byte.getLsbD 4 } = m := by
    obtain ⟨state, markRejected, markSubstituted, slip, indexMissed⟩ := m
    revert state markRejected markSubstituted slip indexMissed
    decide
  rw [parseEventMask, if_pos hlow.1, hlow.2]

theorem parseEventMask_eq_some (body : List Byte) (m : EventMask) (k : Nat) :
    parseEventMask body = some (m, k) ↔ k ≤ 255 ∧ body = [m.byte, BitVec.ofNat 8 k] := by
  refine ⟨fun h => ?_, fun ⟨hk, hbody⟩ => ?_⟩
  · unfold parseEventMask at h
    split at h
    · rename_i mask interval
      split at h <;> cases h
      rename_i hlow
      refine ⟨Nat.le_of_lt_succ interval.isLt, ?_⟩
      rw [← (byte_toNat_eq_iff interval (Nat.le_of_lt_succ interval.isLt)).1 rfl]
      exact congrArg (· :: [interval]) (byte_of_low_bits hlow)
    · cases h
  · rw [hbody, m.parse_byte, toNat_ofNat_byte hk]

/-- The edges byte of SET_ATTENTION holds two codes, with bits 4 to 7 reserved. -/
theorem edges_eq_iff (b : Byte) (x y : Edge) :
    b = BitVec.ofNat 8 (edgeCode x + 4 * edgeCode y) ↔ b.toNat % 4 = edgeCode x ∧ b.toNat / 4 = edgeCode y := by
  have hcode : ∀ e, edgeCode e ≤ 1 := fun e => by cases e <;> decide
  have hx := hcode x
  have hy := hcode y
  rw [← byte_toNat_eq_iff b (by omega)]
  omega

theorem parseAttention_cons (en edges w : Byte) (a : AttentionArgs) :
    parseAttention [en, edges, w] = some a ↔
      (1 ≤ a.watermark ∧ a.watermark ≤ 31) ∧ en = a.enables.byte ∧
        edges = BitVec.ofNat 8 (edgeCode a.watermarkEdge + 4 * edgeCode a.nonemptyEdge) ∧
        w = BitVec.ofNat 8 a.watermark := by
  simp only [parseAttention, Option.bind_eq_bind, Option.bind_eq_some_iff, parseCauses_eq_some, parseEdge_eq_some,
    inRange_byte (show 31 ≤ 255 by decide), Option.some.injEq, edges_eq_iff]
  refine ⟨?_, fun ⟨hrange, hen, ⟨hwm, hne⟩, hw⟩ => ⟨_, hen, _, hwm, _, hne, _, ⟨hrange, hw⟩, rfl⟩⟩
  rintro ⟨_, hen, _, hwm, _, hne, _, ⟨hrange, hw⟩, rfl⟩
  exact ⟨hrange, hen, ⟨hwm, hne⟩, hw⟩

theorem parseAttention_eq_some (body : List Byte) (a : AttentionArgs) :
    parseAttention body = some a ↔ (1 ≤ a.watermark ∧ a.watermark ≤ 31) ∧ body = a.bytes := by
  refine ⟨fun h => ?_, fun ⟨hrange, hbody⟩ => hbody ▸ (parseAttention_cons _ _ _ a).2 ⟨hrange, rfl, rfl, rfl⟩⟩
  match body with
  | [en, edges, w] =>
    obtain ⟨hrange, rfl, rfl, rfl⟩ := (parseAttention_cons en edges w a).1 h
    exact ⟨hrange, rfl⟩
  | [] | [_] | [_, _] | _ :: _ :: _ :: _ :: _ => cases h

theorem parseAck_eq_some (body : List Byte) (c : CauseSet) : parseAck body = some c ↔ body = [c.byte] := by
  unfold parseAck
  split
  · simp [parseCauses_eq_some]
  · rename_i hbody
    simpa using hbody _

theorem parseNothing_eq_some (body : List Byte) : parseNothing body = some () ↔ body = [] := by
  cases body <;> simp [parseNothing]

/-! ### The records of Tables 9-4 and 9-5 -/

theorem TrackerConfig.bytes_of_parse {body : List Byte} {c : TrackerConfig} (h : parseTrackerConfig body = some c) :
    body = c.bytes := by
  unfold parseTrackerConfig at h
  split at h
  · simp only [Option.bind_eq_bind, Option.bind_some, Option.bind_none, Option.ite_none_right_eq_some,
      Option.bind_eq_some_iff, Option.some.injEq, inRange_byte (show 15 ≤ 255 by decide),
      inRange_byte (show 16 ≤ 255 by decide), parseSlipPolicy_eq_some,
      parseFlag_eq_some, parseEdge_eq_some] at h
    obtain ⟨-, -, _, ⟨-, rfl⟩, _, ⟨-, rfl⟩, _, ⟨-, rfl⟩, _, rfl, _, rfl, _, rfl, markEdge, hmark, indexEdge, hindex,
      rfl⟩ := h
    have hcode : ∀ e, edgeCode e ≤ 255 := fun e => by cases e <;> decide
    rw [(byte_toNat_eq_iff _ (hcode markEdge)).1 hmark, (byte_toNat_eq_iff _ (hcode indexEdge)).1 hindex]
    simp [TrackerConfig.bytes]
  · cases h

theorem parseTrackerConfig_eq_some (body : List Byte) (c : TrackerConfig) :
    parseTrackerConfig body = some c ↔ c.Legal ∧ body = c.bytes :=
  ⟨fun h => ⟨TrackerConfig.legal_of_parse h, TrackerConfig.bytes_of_parse h⟩,
    fun ⟨hlegal, hbody⟩ => hbody ▸ TrackerConfig.parse_bytes hlegal⟩

/-- The twelve bytes of an entry, each field exactly from its bytes (Table 9-4). -/
theorem parseEntry_cons (l t0 t1 coding w0 w1 d0 d1 n off b0 b1 : Byte) (f : EntryFields) :
    parseEntry [l, t0, t1, coding, w0, w1, d0, d1, n, off, b0, b1] = some f ↔
      f.Legal ∧ l = BitVec.ofNat 8 f.line.val ∧ [t0, t1] = leBytes 2 f.trigger ∧
        coding = BitVec.ofNat 8 (f.action.codes.1 + 4 * f.action.codes.2.1 + 16 * f.filter.codes.1 +
          64 * f.notify.toNat) ∧
        [w0, w1] = leBytes 2 f.action.codes.2.2 ∧ [d0, d1] = leBytes 2 f.lead ∧
        n = BitVec.ofNat 8 f.filter.codes.2.1 ∧ off = BitVec.ofNat 8 f.filter.codes.2.2 ∧
        [b0, b1] = leBytes 2 f.label.toNat := by
  have hn : n.toNat ≤ 255 := Nat.le_of_lt_succ n.isLt
  simp only [parseEntry, Option.bind_eq_bind, Option.bind_eq_some_iff, parseLine_eq_some,
    inRange_leValue (show 4095 ≤ 65535 by decide), parseAction_eq_some, parseFilter_eq_some hn, parseNotify_eq_some,
    Option.some.injEq, Prod.ext_iff, EntryFields.legal_iff]
  constructor
  · rintro ⟨_, hline, _, ⟨⟨-, htrigger⟩, htb⟩, _, ⟨⟨ha, hk, hw⟩, haction⟩, _, ⟨⟨hf, hnn, hoff⟩, hfilter⟩, _, hnotify,
      rfl⟩
    obtain ⟨ha3, hk3, hw3⟩ := Action.codes_le haction
    obtain ⟨hf3, hn3, hoff3⟩ := CycleFilter.codes_le hfilter
    refine ⟨⟨htrigger, haction, leValue_two_le _ _, hfilter⟩, hline, htb, ?_, (leValue_two_eq_iff _ _ hw3).1 hw,
      (leValue_two_eq_iff _ _ (leValue_two_le _ _)).1 rfl, (byte_toNat_eq_iff _ hn3).1 hnn,
      (byte_toNat_eq_iff _ hoff3).1 hoff, (label_eq_iff _ _ _).1 rfl⟩
    exact (coding_eq_iff coding ha3 hk3 hf3 ((Bool.toNat_le _).trans (by decide))).2 ⟨ha, hk, hf, hnotify⟩
  · rintro ⟨⟨htrigger, haction, hlead, hfilter⟩, hline, htb, hcoding, hw, hd, hnn, hoff, hlabel⟩
    obtain ⟨ha3, hk3, hw3⟩ := Action.codes_le haction
    obtain ⟨hf3, hn3, hoff3⟩ := CycleFilter.codes_le hfilter
    obtain ⟨ha, hk, hf, hnotify⟩ :=
      (coding_eq_iff coding ha3 hk3 hf3 ((Bool.toNat_le _).trans (by decide))).1 hcoding
    refine ⟨_, hline, _, ⟨⟨Nat.zero_le _, htrigger⟩, htb⟩, _,
      ⟨⟨ha, hk, (leValue_two_eq_iff _ _ hw3).2 hw⟩, haction⟩, _,
      ⟨⟨hf, (byte_toNat_eq_iff _ hn3).2 hnn, (byte_toNat_eq_iff _ hoff3).2 hoff⟩, hfilter⟩, _, hnotify, ?_⟩
    rw [(leValue_two_eq_iff _ _ hlead).2 hd, (label_eq_iff _ _ _).2 hlabel]

theorem parseEntry_eq_some (body : List Byte) (f : EntryFields) :
    parseEntry body = some f ↔ f.Legal ∧ body = f.bytes := by
  refine ⟨fun h => ?_, fun ⟨hlegal, hbody⟩ => ?_⟩
  · unfold parseEntry at h
    split at h
    · obtain ⟨hlegal, rfl, htb, rfl, hw, hd, rfl, rfl, hlabel⟩ := (parseEntry_cons _ _ _ _ _ _ _ _ _ _ _ _ f).1 h
      refine ⟨hlegal, ?_⟩
      simp only [leBytes, List.cons.injEq, and_true] at htb hw hd hlabel
      obtain ⟨rfl, rfl⟩ := htb
      obtain ⟨rfl, rfl⟩ := hw
      obtain ⟨rfl, rfl⟩ := hd
      obtain ⟨rfl, rfl⟩ := hlabel
      rfl
    · cases h
  · subst hbody
    exact (parseEntry_cons _ _ _ _ _ _ _ _ _ _ _ _ f).2 ⟨hlegal, rfl, rfl, rfl, rfl, rfl, rfl, rfl, rfl⟩

/-- Settles O7, body by body. -/
theorem recordsAreReadExactlyInTheirRanges : Obligations.RecordsAreReadExactlyInTheirRanges :=
  ⟨parseTrackerConfig_eq_some, parseEntry_eq_some, parseOpenSession_eq_some, parseSetQuota_eq_some, parseClaim_eq_some,
    parseLineBody_eq_some, parseLineMode_eq_some, parseIdBody_eq_some, parseCount_eq_some, parseEventMask_eq_some,
    parseAttention_eq_some, parseAck_eq_some, parseNothing_eq_some⟩

end Sys2Proof.Machine
end

section
/-! The Table Engine: which job a choice takes, and what the engine holds and owes before and after one. -/

namespace Sys2Proof.Machine

/-! ### The choice of a job -/

theorem mem_portsAfter (a p : Port) : p ∈ portsAfter a := by cases a <;> cases p <;> decide

/-- The ports after one stand in the order A, B, C, D, A (R56). -/
theorem portsAfter_sorted (a : Port) : (portsAfter a).Pairwise fun p q => stepsAfter a p < stepsAfter a q := by
  cases a <;> decide

/-- In a list sorted by a key, the first hit is the one of least key. -/
theorem findSome?_of_least {α β : Type} {f : α → Option β} {key : α → Nat} {a : α} {b : β} (hb : f a = some b) :
    ∀ {l : List α}, l.Pairwise (fun x y => key x < key y) → a ∈ l → (∀ q, key q < key a → f q = none) →
      l.findSome? f = some b
  | x :: l, hsorted, ha, hbefore => by
    obtain ⟨hx, hsorted⟩ := List.pairwise_cons.1 hsorted
    obtain rfl | ha := List.mem_cons.1 ha
    · rw [List.findSome?_cons, hb]
    · rw [List.findSome?_cons, hbefore x (hx a ha)]
      exact findSome?_of_least hb hsorted ha hbefore

/-- The next port in turn is the first after the last served that has a job (R56). -/
theorem Engine.nextPort_of_first {e : Engine} {p : Port} {j : PortJob} (hp : e.waiting.get p = some j)
    (hfirst : ∀ q, stepsAfter e.lastServed q < stepsAfter e.lastServed p → e.waiting.get q = none) :
    e.nextPort = some (p, j) :=
  findSome?_of_least (key := stepsAfter e.lastServed) (by rw [hp]; rfl) (portsAfter_sorted _) (mem_portsAfter _ p)
    fun q hq => by rw [hfirst q hq]; rfl

theorem Engine.waiting_of_nextPort {e : Engine} {p : Port} {j : PortJob} (h : e.nextPort = some (p, j)) :
    e.waiting.get p = some j := by
  obtain ⟨q, -, hq⟩ := List.exists_of_findSome?_eq_some h
  obtain ⟨k, hk, hkj⟩ := Option.map_eq_some_iff.1 hq
  cases hkj
  exact hk

theorem Engine.nextPort_eq_none (e : Engine) : e.nextPort = none ↔ ∀ p, e.waiting.get p = none := by
  simp only [Engine.nextPort, List.findSome?_eq_none_iff, Option.map_eq_none_iff, mem_portsAfter, true_implies]

theorem Engine.choose_of_service {e : Engine} {v : Service} (h : e.service = some v) (now draw : Nat) :
    e.choose now draw = e := by
  simp [Engine.choose, h]

theorem Engine.choose_of_internal {e : Engine} {j : InternalJob} {rest : List InternalJob} (h : e.service = none)
    (hj : e.internal = j :: rest) (now draw : Nat) :
    e.choose now draw =
      { e with internal := rest, service := some { job := .internal j, takenAt := now, draw := draw } } := by
  simp [Engine.choose, h, hj]

theorem Engine.choose_of_port {e : Engine} {p : Port} {j : PortJob} (h : e.service = none) (hi : e.internal = [])
    (hp : e.nextPort = some (p, j)) (now draw : Nat) :
    e.choose now draw =
      { e with waiting := e.waiting.set p none, lastServed := p,
               service := some { job := .port p j, takenAt := now, draw := draw } } := by
  simp [Engine.choose, h, hi, hp]

theorem Engine.choose_of_nothing {e : Engine} (h : e.service = none) (hi : e.internal = [])
    (hw : ∀ p, e.waiting.get p = none) (now draw : Nat) : e.choose now draw = e := by
  simp [Engine.choose, h, hi, e.nextPort_eq_none.2 hw]

/-- Settles O47: the four things that a choice can find. -/
theorem engineChoosesInternalJobsThenPortsInTurn : Obligations.EngineChoosesInternalJobsThenPortsInTurn :=
  fun _ now draw => ⟨fun _ hv => Engine.choose_of_service hv now draw, fun hidle =>
    ⟨fun _ _ hj => Engine.choose_of_internal hidle hj now draw, fun hi =>
      ⟨fun _ _ hp hfirst => Engine.choose_of_port hidle hi (Engine.nextPort_of_first hp hfirst) now draw,
        fun hw => Engine.choose_of_nothing hidle hi hw now draw⟩⟩⟩

/-- A property of the engine holds after a choice if it holds after each of the four things a choice can do. -/
theorem Engine.choose_ind {P : Engine → Prop} (e : Engine) (now draw : Nat) (hbusy : ∀ v, e.service = some v → P e)
    (hinternal : ∀ j rest, e.service = none → e.internal = j :: rest →
      P { e with internal := rest, service := some { job := .internal j, takenAt := now, draw := draw } })
    (hport : ∀ p j, e.service = none → e.internal = [] → e.waiting.get p = some j →
      P { e with waiting := e.waiting.set p none, lastServed := p,
                 service := some { job := .port p j, takenAt := now, draw := draw } })
    (hnothing : e.service = none → e.internal = [] → (∀ p, e.waiting.get p = none) → P e) : P (e.choose now draw) := by
  cases hs : e.service with
  | some v =>
    rw [Engine.choose_of_service hs]
    exact hbusy v hs
  | none =>
    cases hi : e.internal with
    | cons j rest =>
      rw [Engine.choose_of_internal hs hi]
      exact hinternal j rest hs hi
    | nil =>
      cases hp : e.nextPort with
      | none =>
        rw [Engine.choose_of_nothing hs hi (e.nextPort_eq_none.1 hp)]
        exact hnothing hs hi (e.nextPort_eq_none.1 hp)
      | some x =>
        rw [Engine.choose_of_port hs hi hp]
        exact hport x.1 x.2 hs hi (Engine.waiting_of_nextPort hp)

/-! ### What a choice keeps -/

/-- A choice takes a job on; the engine holds the same jobs of the ports. -/
theorem Engine.choose_holds (e : Engine) (now draw : Nat) (p : Port) (j : PortJob) :
    (e.choose now draw).Holds p j ↔ e.Holds p j := by
  refine Engine.choose_ind (P := fun f => f.Holds p j ↔ e.Holds p j) e now draw (fun _ _ => Iff.rfl)
    (fun k rest hs _ => ?_) (fun q k hs _ hq => ?_) fun _ _ _ => Iff.rfl
  · simp [Engine.Holds, hs]
  · by_cases hqp : q = p
    · subst hqp
      simp [Engine.Holds, hs, hq]
    · simp [Engine.Holds, hs, hqp, PerPort.get_set]

/-- A choice completes no sweep. -/
theorem Engine.choose_sweeps (e : Engine) (now draw : Nat) (p : Port) :
    (e.choose now draw).sweeps p = e.sweeps p := by
  refine Engine.choose_ind (P := fun f => f.sweeps p = e.sweeps p) e now draw (fun _ _ => rfl)
    (fun k rest hs hi => ?_) (fun q k hs _ _ => ?_) fun _ _ _ => rfl
  · simp [Engine.sweeps, hs, hi, List.count_cons, Nat.add_comm]
  · simp [Engine.sweeps, hs]

/-- A job that waits after a choice waited before it. -/
theorem Engine.waiting_of_choose {e : Engine} {now draw : Nat} {p : Port} {j : PortJob} :
    (e.choose now draw).waiting.get p = some j → e.waiting.get p = some j := by
  refine Engine.choose_ind (P := fun f => f.waiting.get p = some j → e.waiting.get p = some j) e now draw
    (fun _ _ => id) (fun _ _ _ _ => id) (fun q k _ _ _ hp => ?_) fun _ _ _ => id
  rw [PerPort.get_set] at hp
  split at hp
  · cases hp
  · exact hp

/-- No port has a job both waiting and in service. -/
def Engine.OneJobEach (e : Engine) : Prop :=
  ∀ p j v, e.waiting.get p = some j → e.service = some v → ∀ k, v.job ≠ .port p k

theorem Engine.OneJobEach.choose {e : Engine} (h : e.OneJobEach) (now draw : Nat) :
    (e.choose now draw).OneJobEach := by
  refine Engine.choose_ind (P := Engine.OneJobEach) e now draw (fun _ _ => h) (fun j rest _ _ => ?_)
    (fun q k _ _ _ => ?_) fun _ _ _ => h
  · rintro p _ _ - ⟨⟩ _ ⟨⟩
  · rintro p _ _ hp ⟨⟩ _ ⟨⟩
    simp at hp

/-- After a choice the engine is idle only where nothing waits (R55, R56). -/
theorem Engine.idle_of_choose {e : Engine} {now draw : Nat} :
    (e.choose now draw).service = none →
      (e.choose now draw).internal = [] ∧ ∀ p, (e.choose now draw).waiting.get p = none :=
  Engine.choose_ind (P := fun f => f.service = none → f.internal = [] ∧ ∀ p, f.waiting.get p = none) e now draw
    (fun _ hv hidle => nomatch hv.symm.trans hidle) (fun _ _ _ _ => nofun) (fun _ _ _ _ _ => nofun)
    fun _ hi hw _ => ⟨hi, hw⟩

/-! ### The job in service done -/

/-- The part with the job in service done and the engine free (R57). -/
def State.served (s : State) : State := s.setEngine { s.engine with service := none }

theorem State.completeJob_eq (s : State) (effect : State → State) :
    s.completeJob effect = (effect s.served).chooseJob := rfl

end Sys2Proof.Machine
end

section
/-! The six completions of the Table Engine's jobs, each as one equation on the next state. -/

namespace Sys2Proof.Machine

/-! ### Insertions, deletions and spent removals -/

/-- A job in service since an earlier tick may complete. -/
theorem State.ripeJob_of_service {s : State} {t taken draw : Nat} {j : Job}
    (hv : s.engine.service = some { job := j, takenAt := taken, draw := draw }) (ht : taken < max s.now t) :
    (s.advanceTo t).ripeJob = some j :=
  (State.ripeJob_eq_some _ _).2 ⟨_, hv, ht, rfl⟩

section
variable {t taken draw : Nat} {s : State}

theorem exec_insertionCompletes_of_service {p : Port} {f : EntryFields}
    (hv : s.engine.service = some { job := .port p (.insertion f), takenAt := taken, draw := draw })
    (ht : taken < max s.now t) :
    exec (.insertionCompletes t) s = .next ((s.advanceTo t).served.insert p f).chooseJob := by
  simp only [exec, execInsertionCompletes, State.ripeJob_of_service hv ht]
  rfl

theorem exec_entryDeletionCompletes_of_service {p : Port} {id : EntryId}
    (hv : s.engine.service = some { job := .port p (.entryDeletion id), takenAt := taken, draw := draw })
    (ht : taken < max s.now t) :
    exec (.entryDeletionCompletes t) s = .next ((s.advanceTo t).served.deleteEntry p id).chooseJob := by
  simp only [exec, execEntryDeletionCompletes, State.ripeJob_of_service hv ht]
  rfl

theorem exec_lineClearCompletes_of_service {p : Port} {l : Line}
    (hv : s.engine.service = some { job := .port p (.lineClear l), takenAt := taken, draw := draw })
    (ht : taken < max s.now t) :
    exec (.lineClearCompletes t) s = .next ((s.advanceTo t).served.clearLine p l).chooseJob := by
  simp only [exec, execLineClearCompletes, State.ripeJob_of_service hv ht]
  rfl

theorem exec_releaseDeletionCompletes_of_service {p : Port} {l : Line}
    (hv : s.engine.service = some { job := .port p (.releaseDeletion l), takenAt := taken, draw := draw })
    (ht : taken < max s.now t) :
    exec (.releaseDeletionCompletes t) s = .next ((s.advanceTo t).served.releaseLine p l).chooseJob := by
  simp only [exec, execReleaseDeletionCompletes, State.ripeJob_of_service hv ht]
  rfl

theorem exec_teardownSweepCompletes_of_service {p : Port}
    (hv : s.engine.service = some { job := .internal (.sweep p), takenAt := taken, draw := draw })
    (ht : taken < max s.now t) :
    exec (.teardownSweepCompletes t) s = .next ((s.advanceTo t).served.sweep p).chooseJob := by
  simp only [exec, execTeardownSweepCompletes, State.ripeJob_of_service hv ht]
  rfl

theorem exec_spentRemovalCompletes_of_service {id : EntryId} {seq : Count32}
    (hv : s.engine.service = some { job := .internal (.spentRemoval id seq), takenAt := taken, draw := draw })
    (ht : taken < max s.now t) :
    exec (.spentRemovalCompletes t) s = .next ((s.advanceTo t).served.removeSpent id seq).chooseJob := by
  simp only [exec, execSpentRemovalCompletes, State.ripeJob_of_service hv ht]
  rfl

end

/-- An insertion at or above the quota (R60). -/
theorem State.insert_of_quota {s : State} {p : Port} (f : EntryFields)
    (h : (s.port p).quota ≤ s.slotsWith fun e => decide (e.owner = p)) :
    s.insert p f = s.setPort p ((s.port p).completed .insertEntry .quota []) := by
  rw [State.insert, State.entryCount_eq, if_pos h, State.finishLong_eq]

/-- An insertion below the quota with no slot empty (R60). -/
theorem State.insert_of_full {s : State} {p : Port} (f : EntryFields)
    (h : s.slotsWith (fun e => decide (e.owner = p)) < (s.port p).quota) (hfull : ∀ i, s.slot i ≠ none) :
    s.insert p f = s.setPort p ((s.port p).completed .insertEntry .tableFull []) := by
  simp only [State.insert, State.entryCount_eq, if_neg (not_le.2 h), s.lowestEmpty_eq_none.2 hfull,
    State.finishLong_eq]

/-- An insertion below the quota takes the lowest empty slot (R46 to R48, R60). -/
theorem State.insert_of_empty {s : State} {p : Port} (f : EntryFields) {id : EntryId}
    (h : s.slotsWith (fun e => decide (e.owner = p)) < (s.port p).quota) (hid : s.slot id = none)
    (hlowest : ∀ i < id, s.slot i ≠ none) :
    s.insert p f =
      (((s.setSlot id (some (newEntry p f s.nextSeq))).setNextSeq (s.nextSeq + 1)).setLastFired
        (s.lastFired.set id none)).setPort p
          ((s.port p).completed .insertEntry .ok (BitVec.ofNat 8 id.val :: leBytes 4 s.nextSeq.toNat)) := by
  simp only [State.insert, State.entryCount_eq, if_neg (not_le.2 h), (s.lowestEmpty_eq_some id).2 ⟨hid, hlowest⟩,
    State.finishLong_eq]
  rfl

/-- Settles O48 by the three outcomes of R60. -/
theorem insertionCompletesWithItsChecks : Obligations.InsertionCompletesWithItsChecks := by
  intro t p f taken draw s hv ht
  rw [exec_insertionCompletes_of_service hv ht]
  refine ⟨fun hquota => ?_, fun hquota hfull => ?_, fun id hquota hid hlowest => ?_⟩
  · rw [State.insert_of_quota (s := (s.advanceTo t).served) f hquota]
    rfl
  · rw [State.insert_of_full (s := (s.advanceTo t).served) f hquota hfull]
    rfl
  · rw [State.insert_of_empty (s := (s.advanceTo t).served) f hquota hid hlowest]
    rfl

theorem Bank.set_get {α : Type} {n : Nat} (b : Bank α n) (i : Fin n) : b.set i (b.get i) = b := by
  refine Bank.ext_get _ _ fun j => ?_
  rw [Bank.get_set]
  split
  · rename_i hij
    rw [hij]
  · rfl

theorem State.setLine_unchanged (s : State) (l : Line) : s.setLine l (s.line l) = s := by
  rw [State.setLine, State.line, Bank.set_get]
  rfl

/-- The pulse that an entry set ends with it, any other stays (R61, R95). -/
theorem State.endPulseOf_eq (s : State) (id : EntryId) (e : Entry) :
    s.endPulseOf id e =
      s.setLine e.fields.line
        (if (s.line e.fields.line).pulse.setBy id e.seq = true then
          { s.line e.fields.line with active := false, pulse := .none }
         else s.line e.fields.line) := by
  unfold State.endPulseOf
  split
  · rfl
  · rw [State.setLine_unchanged]

/-- Settles O49 by the three outcomes of R61. -/
theorem entryDeletionCompletesWithItsChecks : Obligations.EntryDeletionCompletesWithItsChecks := by
  intro t p id taken draw s hv ht
  rw [exec_entryDeletionCompletes_of_service hv ht]
  have hslot : (s.advanceTo t).served.slot id = s.slot id := rfl
  refine ⟨fun hempty => ?_, fun e he hother => ?_, fun e he hown => ?_⟩
  · simp only [State.deleteEntry, hslot, hempty, State.finishLong_eq]
    rfl
  · simp only [State.deleteEntry, hslot, he, if_neg hother, State.finishLong_eq]
    rfl
  · simp only [State.deleteEntry, hslot, he, if_pos hown, State.finishLong_eq, State.endPulseOf_eq]
    rfl

/-- Settles O52: the slot holds the SPENT entry with the job's sequence, or the job has no effect. -/
theorem spentRemovalTakesOnlyItsOwnEntry : Obligations.SpentRemovalTakesOnlyItsOwnEntry := by
  intro t id seq taken draw s hv ht
  rw [exec_spentRemovalCompletes_of_service hv ht]
  have hslot : (s.advanceTo t).served.slot id = s.slot id := rfl
  refine ⟨fun e he hseq hspent => ?_, fun hgone => ?_⟩
  · simp only [State.removeSpent, hslot, he]
    rw [if_pos ⟨hseq, hspent⟩]
    rfl
  · have hkept : (s.advanceTo t).served.removeSpent id seq = (s.advanceTo t).served := by
      unfold State.removeSpent
      split
      · rename_i e he
        exact if_neg (hgone e he)
      · rfl
    rw [hkept]
    rfl

/-! ### Lines cleared and handed over -/

/-- The effect of a line clear (R62, R95). -/
theorem State.clearLine_eq (s : State) (p : Port) (l : Line) :
    s.clearLine p l =
      ((s.removeEntries fun e => e.isOn p l).setLine l
        (if ∃ i e, s.slot i = some e ∧ (e.owner = p ∧ e.fields.line = l) ∧ (s.line l).pulse.setBy i e.seq = true then
          { s.line l with active := false, pulse := .none }
         else s.line l)).setPort p
        ((s.port p).completed .clearLineEntries .ok
          [BitVec.ofNat 8 (s.slotsWith fun e => decide (e.owner = p ∧ e.fields.line = l))]) := by
  simp only [State.clearLine, State.finishLong_eq, State.countEntries_eq, State.pulseIsOf_eq_true]
  split
  · rfl
  · have hsame := State.setLine_unchanged (s.removeEntries fun e => e.isOn p l) l
    exact congrArg (fun u : State => u.setPort p ((s.port p).completed .clearLineEntries .ok _)) hsame.symm

/-- The port to which LINE_GRANTED goes as a line is handed over, if it waits first and is not CLOSED (R100). -/
theorem State.handOver_port (s : State) (l : Line) (q : Port) :
    (s.handOver l).port q =
      if (s.line l).waiting.head?.map (·.port) = some q ∧ (s.port q).isClosed = false then
        (s.port q).arrive (s.stamp (.lineGranted l))
      else s.port q := by
  rw [State.handOver_eq]
  exact PerPort.get_mapPort _ _ q

theorem LineState.handedOver_owner (l : LineState) : l.handedOver.owner = l.waiting.head?.map (·.port) := by
  unfold LineState.handedOver
  split <;> rename_i hw <;> rw [hw] <;> rfl

theorem LineState.handedOver_waiting (l : LineState) : l.handedOver.waiting = l.waiting.tail := by
  unfold LineState.handedOver
  split <;> rename_i hw <;> rw [hw] <;> rfl

/-- The effect of a release deletion (R63, R100). -/
theorem State.releaseLine_eq (s : State) (p : Port) (l : Line) :
    s.releaseLine p l =
      ((s.removeEntries fun e => e.isOn p l).handOver l).setPort p
        ((((s.removeEntries fun e => e.isOn p l).handOver l).port p).completed .releaseLine .ok
          [BitVec.ofNat 8 (s.slotsWith fun e => decide (e.owner = p ∧ e.fields.line = l)),
           optPortByte ((s.line l).waiting.head?.map (·.port))]) := by
  have hline : ((s.removeEntries fun e => e.isOn p l).handOver l).line l = (s.line l).handedOver := by
    rw [State.handOver_eq]
    exact Bank.get_set_self _ _ _
  rw [State.releaseLine, State.finishLong_eq, State.countEntries_eq, hline, LineState.handedOver_owner]
  rfl

/-- Settles O50: the line clear is its own equation; the release deletion hands the line over, and its reply follows the
record at the port itself. -/
theorem lineClearAndReleaseRemoveTheLinesEntries : Obligations.LineClearAndReleaseRemoveTheLinesEntries := by
  intro t p l taken draw s ht
  refine ⟨fun hv => ?_, fun hv => ?_⟩
  · rw [exec_lineClearCompletes_of_service hv ht, State.clearLine_eq]
    rfl
  · rw [exec_releaseDeletionCompletes_of_service hv ht, State.releaseLine_eq]
    have hport := State.handOver_port ((s.advanceTo t).served.removeEntries fun e => e.isOn p l) l
    rw [State.handOver_eq] at hport ⊢
    refine congrArg Host.Outcome.next
      (State.ext_fields _ _ rfl rfl rfl rfl rfl rfl rfl rfl rfl rfl rfl rfl rfl rfl fun q => ?_)
    refine Eq.trans ?_ (PerPort.get_mapPort _ _ q).symm
    refine (State.setPort_port _ p q _).trans ?_
    rw [hport, hport]
    by_cases hqp : q = p
    · subst hqp
      have hnew : optPortByte ((s.line l).waiting.head?.map (·.port)) =
          match (s.line l).waiting with
          | w :: _ => BitVec.ofNat 8 (portCode w.port)
          | [] => 0xFF := by
        cases (s.line l).waiting <;> rfl
      rw [if_pos rfl, if_pos rfl]
      change PortState.completed _ _ _ [_, optPortByte ((s.line l).waiting.head?.map (·.port))] = _
      rw [hnew]
      rfl
    · rw [if_neg (Ne.symm hqp), if_neg hqp]
      rfl

end Sys2Proof.Machine
end

section
/-! The teardown sweep: lines handed over one after another, the port closed down, and the reply of R122. -/

namespace Sys2Proof.Machine

/-! ### Lines handed over one after another -/

theorem State.ownedLines_eq (s : State) (p : Port) :
    s.ownedLines p = (List.finRange 16).filter fun l => decide ((s.line l).owner = some p) := by
  rw [State.ownedLines, Bank.indexed_eq, List.filterMap_map, ← List.filterMap_eq_filter]
  refine List.filterMap_congr fun l _ => ?_
  by_cases h : (s.line l).owner = some p
  · simp [Option.guard, State.lines_get, h]
  · simp [Option.guard, State.lines_get, h]

theorem State.mem_ownedLines (s : State) (p : Port) (l : Line) : l ∈ s.ownedLines p ↔ (s.line l).owner = some p := by
  simp [State.ownedLines_eq]

theorem State.nodup_ownedLines (s : State) (p : Port) : (s.ownedLines p).Nodup := by
  rw [State.ownedLines_eq]
  exact (List.nodup_finRange 16).filter _

/-- What the hand-overs of some lines make of a port: LINE_GRANTED for each line at which it waits first (R100). -/
def State.granted (s : State) (ls : List Line) (q : Port) (ps : PortState) : PortState :=
  (ls.filter fun l => decide ((s.line l).waiting.head?.map (·.port) = some q)).foldl
    (fun ps l => if ps.isClosed then ps else ps.arrive (s.stamp (.lineGranted l))) ps

/-- Only the lines handed over, and nothing of the state but their waiting lists and the stamp, decide what a port is
granted. -/
theorem State.granted_congr {s u : State} {ls : List Line} (hline : ∀ l ∈ ls, u.line l = s.line l)
    (hstamp : u.stamp = s.stamp) (q : Port) (ps : PortState) : u.granted ls q ps = s.granted ls q ps := by
  have hfilter : (ls.filter fun l => decide ((u.line l).waiting.head?.map (·.port) = some q)) =
      ls.filter fun l => decide ((s.line l).waiting.head?.map (·.port) = some q) :=
    List.filter_congr fun l hl => by rw [hline l hl]
  rw [State.granted, State.granted, hfilter, hstamp]

theorem State.granted_cons (s : State) (l : Line) (ls : List Line) (q : Port) (ps : PortState) :
    s.granted (l :: ls) q ps =
      s.granted ls q
        (if (s.line l).waiting.head?.map (·.port) = some q ∧ ps.isClosed = false then
          ps.arrive (s.stamp (.lineGranted l))
         else ps) := by
  unfold State.granted
  by_cases hfirst : (s.line l).waiting.head?.map (·.port) = some q
  · rw [List.filter_cons_of_pos (by exact decide_eq_true hfirst), List.foldl_cons]
    refine congrArg (fun x => List.foldl _ x _) ?_
    cases ps.isClosed
    · exact (if_pos ⟨hfirst, rfl⟩).symm
    · exact (if_neg fun h => nomatch h.2).symm
  · rw [List.filter_cons_of_neg (by simpa using hfirst), if_neg fun h => hfirst h.1]

theorem State.granted_isOpen (s : State) (ls : List Line) (q : Port) : ∀ ps : PortState,
    (s.granted ls q ps).isOpen = ps.isOpen := by
  unfold State.granted
  induction ls.filter fun l => decide ((s.line l).waiting.head?.map (·.port) = some q) with
  | nil => exact fun _ => rfl
  | cons l ls ih =>
    intro ps
    rw [List.foldl_cons, ih]
    split
    · rfl
    · exact PortState.arrive_isOpen _ _

/-- A port that waits first at none of the lines is granted none. -/
theorem State.granted_of_not_waiting {s : State} {ls : List Line} {q : Port}
    (h : ∀ l ∈ ls, ∀ w ∈ (s.line l).waiting, w.port ≠ q) (ps : PortState) : s.granted ls q ps = ps := by
  have hnil : (ls.filter fun l => decide ((s.line l).waiting.head?.map (·.port) = some q)) = [] := by
    refine List.filter_eq_nil_iff.2 fun l hl hfirst => ?_
    obtain ⟨w, hw, hwq⟩ := Option.map_eq_some_iff.1 (of_decide_eq_true hfirst)
    exact h l hl w (List.mem_of_mem_head? hw) hwq
  rw [State.granted, hnil, List.foldl_nil]

/-- Lines handed over one after another, none twice: each is handed over, and the new owners are granted theirs. -/
theorem State.foldl_handOver : ∀ (ls : List Line) (s : State), ls.Nodup →
    ∃ lines : Bank LineState 16,
      ls.foldl State.handOver s =
        { s with lines := lines, ports := s.ports.mapPort fun q ps => s.granted ls q ps } ∧
      ∀ l, lines.get l = if l ∈ ls then (s.line l).handedOver else s.line l
  | [], s, _ => by
    refine ⟨s.lines, ?_, fun l => by simp [State.lines_get]⟩
    refine State.ext_fields _ _ rfl rfl rfl rfl rfl rfl rfl rfl rfl rfl rfl rfl rfl rfl fun q => ?_
    exact (PerPort.get_mapPort (fun q ps => s.granted [] q ps) s.ports q).symm
  | l :: ls, s, hnodup => by
    obtain ⟨hl, hnodup⟩ := List.nodup_cons.1 hnodup
    obtain ⟨lines, heq, hget⟩ := State.foldl_handOver ls (s.handOver l) hnodup
    have hline : ∀ k, (s.handOver l).line k = if l = k then (s.line l).handedOver else s.line k := fun k => by
      rw [State.handOver_eq]
      exact Bank.get_set _ _ _ _
    have hother : ∀ k ∈ ls, (s.handOver l).line k = s.line k := fun k hk => by
      have hlk : l ≠ k := fun hlk => hl (hlk ▸ hk)
      rw [hline, if_neg hlk]
    have hstamp : (s.handOver l).stamp = s.stamp := by
      rw [State.handOver_eq]
      rfl
    refine ⟨lines, ?_, fun k => ?_⟩
    · rw [List.foldl_cons, heq]
      have hfields := State.handOver_eq s l
      apply State.ext_fields
      case hlines => rfl
      case hports =>
        intro q
        refine (PerPort.get_mapPort _ _ q).trans (Eq.trans ?_ (PerPort.get_mapPort _ _ q).symm)
        rw [State.granted_congr hother hstamp, State.granted_cons, State.ports_get, State.handOver_port]
        rfl
      all_goals
        rw [hfields]
    · rw [hget]
      by_cases hk : k ∈ ls
      · rw [if_pos hk, if_pos (List.mem_cons_of_mem _ hk), hother k hk]
      · rw [if_neg hk, hline]
        by_cases hlk : l = k
        · subst hlk
          simp
        · simp [hk, hlk, Ne.symm hlk]

theorem State.granted_ownedLines (s : State) (p q : Port) (ps : PortState) :
    s.granted (s.ownedLines p) q ps =
      ((List.finRange 16).filter fun l =>
        decide ((s.line l).owner = some p ∧ (s.line l).waiting.head?.map (·.port) = some q)).foldl
        (fun ps l => if ps.isClosed then ps else ps.arrive (s.stamp (.lineGranted l))) ps := by
  rw [State.granted, State.ownedLines_eq, List.filter_filter]
  refine congrArg (List.foldl _ ps) (List.filter_congr fun l _ => ?_)
  rw [Bool.decide_and, Bool.and_comm]

/-! ### The sweep -/

theorem Attention.with_conditions_false {a : Attention} (hw : a.watermarkHolds = false) (hn : a.nonemptyHolds = false)
    (latched : CauseSet) :
    { a with latched := latched } = { a with latched := latched, watermarkHolds := false, nonemptyHolds := false } := by
  cases a
  cases hw
  cases hn
  rfl

/-- A port closed down at the depth 0 of its queue, where its condition values are those of its depth (R121, R152,
R158). -/
theorem PortState.closeDown_eq {ps : PortState} (h : PortInv ps) :
    ps.closeDown =
      { ps with
        queue := []
        queueSeq := 0
        session := .closed
        attention :=
          { ps.attention with latched := CauseSet.empty, watermarkHolds := false, nonemptyHolds := false } } := by
  have hwatermark : ¬ps.attention.watermark ≤ 0 := Nat.not_le.2 h.watermarkRange.1
  by_cases hq : ps.queue = []
  · have hw : ps.attention.watermarkHolds = false := by
      rw [h.watermarkHolds, hq]
      exact decide_eq_false hwatermark
    have hn : ps.attention.nonemptyHolds = false := by
      rw [h.nonemptyHolds, hq]
      rfl
    simp only [PortState.closeDown, PortState.clearQueue, if_pos hq, Attention.with_conditions_false hw hn]
  · simp only [PortState.closeDown, PortState.clearQueue, if_neg hq, Attention.atDepth, decide_eq_false hwatermark]
    rfl

/-- The other ports of a teardown hear of it if they are OPEN (R115). -/
theorem State.postPeer_port (s : State) (p q : Port) (closed : Option TeardownCause) :
    (s.postPeer p closed).port q =
      if q ≠ p ∧ (s.port q).isOpen = true then (s.port q).arrive (s.stamp (.peer p closed)) else s.port q := by
  rw [State.postPeer, State.post_port]
  simp only [toPeers, Bool.and_eq_true, decide_eq_true_eq]
  rfl

/-- A port at the end of its teardown: closed down, with the reply of R122 in place of its request's (R121, R122). -/
theorem PortState.tornDown_eq {ps : PortState} (h : PortInv ps) (cause : TeardownCause) :
    { ps.closeDown.passToDone ps.slot.tag cause.status [] with slot := .idle } =
      { ps with
        slot := .idle
        session := .closed
        queue := []
        queueSeq := 0
        reply := .done ps.slot.tag cause.status [] ps.epoch
        attention :=
          { ps.attention with
            latched := CauseSet.empty.withReply, watermarkHolds := false, nonemptyHolds := false } } := by
  rw [PortState.closeDown_eq h]
  rfl

/-- The end of a teardown of a port that waits for none of its own lines: the lines handed over, the port closed down with
the reply, PEER to the other ports (R121, R122). -/
theorem State.finishTeardown_eq {s : State} {p : Port} {limit : Nat} {cause : TeardownCause}
    (hclosing : (s.port p).session = .closing limit cause)
    (hwait : ∀ l, (s.line l).owner = some p → ∀ w ∈ (s.line l).waiting, w.port ≠ p) :
    s.finishTeardown p =
      { s with
        lines := s.lines.map fun l => if l.owner = some p then l.handedOver else l
        ports := s.ports.mapPort fun q ps =>
          if q = p then { ps.closeDown.passToDone ps.slot.tag cause.status [] with slot := .idle }
          else
            if ps.isOpen then (s.granted (s.ownedLines p) q ps).arrive (s.stamp (.peer p (some cause)))
            else s.granted (s.ownedLines p) q ps } := by
  obtain ⟨lines, hfold, hget⟩ := State.foldl_handOver (s.ownedLines p) s (s.nodup_ownedLines p)
  have hself : s.granted (s.ownedLines p) p (s.port p) = s.port p :=
    State.granted_of_not_waiting (fun l hl => hwait l ((s.mem_ownedLines p l).1 hl)) _
  have hlines : lines = s.lines.map fun l => if l.owner = some p then l.handedOver else l := by
    refine Bank.ext_get _ _ fun l => ?_
    rw [hget, Bank.get_map, State.lines_get]
    by_cases hl : (s.line l).owner = some p
    · rw [if_pos hl, if_pos ((s.mem_ownedLines p l).2 hl)]
    · rw [if_neg hl, if_neg fun h => hl ((s.mem_ownedLines p l).1 h)]
  have hport : ∀ q, ((s.ownedLines p).foldl State.handOver s).port q = s.granted (s.ownedLines p) q (s.port q) :=
    fun q => hfold ▸ PerPort.get_mapPort (fun q ps => s.granted (s.ownedLines p) q ps) s.ports q
  have hstamp : ((s.ownedLines p).foldl State.handOver s).stamp = s.stamp := by
    rw [hfold]
    rfl
  subst hlines
  simp only [State.finishTeardown, hclosing]
  apply State.ext_fields
  case hports =>
    intro q
    refine Eq.trans ?_ (PerPort.get_mapPort _ _ q).symm
    by_cases hqp : q = p
    · subst hqp
      rw [if_pos rfl, State.setPort_port_self, State.postPeer_port, if_neg fun h => h.1 rfl, State.setPort_port_self,
        hport, hself]
      rfl
    · rw [if_neg hqp, State.setPort_port_ne _ _ hqp, State.postPeer_port, State.setPort_port_ne _ _ hqp, hport,
        State.granted_isOpen]
      change (if q ≠ p ∧ (s.port q).isOpen = true then
        (s.granted (s.ownedLines p) q (s.port q)).arrive (((s.ownedLines p).foldl State.handOver s).stamp _) else _) = _
      rw [hstamp]
      by_cases hopen : (s.port q).isOpen = true
      · rw [if_pos ⟨hqp, hopen⟩]
        exact (if_pos hopen).symm
      · rw [if_neg fun h => hopen h.2]
        exact (if_neg hopen).symm
  all_goals
    simp only [State.setPort, State.postPeer, State.post, State.setPorts, hfold]

/-- Settles O51: the port's lines are handed over in ascending order to other ports, so the port itself is as the sweep
found it when it is closed down. -/
theorem sweepFinishesTheTeardown : Obligations.SweepFinishesTheTeardown := by
  intro t p limit cause taken draw s hlines hports hv ht hclosing
  have hwait : ∀ l, (s.line l).owner = some p → ∀ w ∈ (s.line l).waiting, w.port ≠ p := fun l hl w hw hwp =>
    hlines.notOwner l w hw (hwp ▸ hl)
  rw [exec_teardownSweepCompletes_of_service hv ht, State.sweep,
    State.finishTeardown_eq (s := (s.advanceTo t).served.removeEntries fun e => decide (e.owner = p)) hclosing hwait]
  refine congrArg Host.Outcome.next
    (State.ext_fields _ _ rfl rfl rfl rfl rfl rfl rfl rfl rfl rfl rfl rfl rfl rfl fun q => ?_)
  refine (PerPort.get_mapPort _ _ q).trans (Eq.trans ?_ (PerPort.get_mapPort _ _ q).symm)
  by_cases hqp : q = p
  · subst hqp
    rw [if_pos rfl, if_pos rfl]
    exact PortState.tornDown_eq (hports q) cause
  · rw [if_neg hqp, if_neg hqp, State.granted_ownedLines]
    rfl

end Sys2Proof.Machine
end

section
/-! The requests of the table once admitted, and the beginnings of a teardown. -/

namespace Sys2Proof.Machine

/-! ### Teardowns begun -/

theorem State.onlyFrame_setPort (s : State) (t : Nat) (p : Port) (x : PortState) :
    (s.onlyFrame t p).setPort p x = (s.advanceTo t).setPort p x :=
  State.setPort_setPort _ _ _ _

/-- CLOSE_SESSION of an OPEN port, up to the steps that the two causes share (R118, R119). -/
theorem State.closeSession_eq {s : State} {p : Port} {limit start : Nat}
    (h : (s.port p).session = .opened limit start) (tag : Tag) :
    s.closeSession p tag =
      (s.setPort p
        { s.port p with
          session := .closing limit .closed, slot := .working .closeSession tag
          reply := .pending tag (s.port p).epoch }).beginTeardown p := by
  have hclosing : (((s.beginLong p .closeSession tag).port p).makeClosing .closed) =
      { s.port p with
        session := .closing limit .closed, slot := .working .closeSession tag
        reply := .pending tag (s.port p).epoch } := by
    rw [State.beginLong_port_self]
    simp only [PortState.makeClosing, h]
  rw [State.closeSession, hclosing, State.beginLong, State.setPort_setPort]

/-- The slot and register as a silence finds them and as it leaves them (R119 step 2). -/
theorem PortState.takeSlot_eq (ps : PortState) :
    ps.takeSlot =
      { ps with
        slot :=
          match ps.slot with
          | .idle => .teardown 0
          | .working _ tag => .teardown tag
          | .teardown tag => .teardown tag
        reply := if ps.slot = .idle then .pending 0 ps.epoch else ps.reply } := by
  obtain ⟨transaction, received, slot, reply, session, epoch, quota, queue, queueSeq, mask, interval, attention⟩ := ps
  cases slot <;> rfl

/-- A silence of an OPEN port, up to the steps that the two causes share (R117, R119). -/
theorem State.silenceTeardown_eq {s : State} {p : Port} {limit start : Nat}
    (h : (s.port p).session = .opened limit start) :
    s.silenceTeardown p =
      (s.setPort p { (s.port p).takeSlot with session := .closing limit .silence }).beginTeardown p := by
  have hclosing : ((s.port p).makeClosing .silence).takeSlot =
      { (s.port p).takeSlot with session := .closing limit .silence } := by
    simp only [PortState.makeClosing, h, PortState.takeSlot_eq]
  rw [State.silenceTeardown, hclosing]

theorem State.Admits.of_opened {s : State} {p : Port} {limit start : Nat} (h : s.TakesRequests p)
    (hs : (s.port p).session = .opened limit start) : s.Admits p :=
  ⟨h.idle, h.attached, (PortState.isOpen_eq_true _).2 ⟨limit, start, hs⟩⟩

/-- Settles O14: the request and the expiry differ in the port alone, and share the steps after it. -/
theorem teardownBeginsInFiveSteps : Obligations.TeardownBeginsInFiveSteps := by
  refine ⟨fun t p tag limit start s htakes hsession => ?_, fun t p limit start s hsession hdue => ?_,
    fun t p s hnot => ?_⟩
  · have hexec : exec (.closeSession t p tag 0 []) s = .next ((s.onlyFrame t p).closeSession p tag) :=
      congrArg Host.Outcome.next
        (State.request_of_admits (.of_opened htakes hsession) t tag {} () _ (fun h => nomatch h) rfl)
    have hframe : ((s.onlyFrame t p).port p).session = .opened limit (max s.now t) := by
      rw [State.onlyFrame_port_self]
      simp only [PortState.afterFrame, hsession]
    rw [hexec, State.closeSession_eq hframe, State.onlyFrame_setPort, State.onlyFrame_port_self,
      State.beginTeardown_eq]
    rfl
  · have hsilent : (s.advanceTo t).silenceDue p = true :=
      (State.silenceDue_eq_true _ _).2 ⟨limit, start, hsession, hdue⟩
    have hexec : exec (.silenceExpiry t p) s = .next ((s.advanceTo t).silenceTeardown p) :=
      congrArg Host.Outcome.next (if_pos hsilent)
    rw [hexec, State.silenceTeardown_eq (s := s.advanceTo t) hsession, State.beginTeardown_eq, PortState.takeSlot_eq]
    rfl
  · have hquiet : ¬(s.advanceTo t).silenceDue p = true := by
      rw [State.silenceDue_eq_true]
      rintro ⟨limit, start, hsession, hdue⟩
      exact absurd (hnot limit start hsession) (not_lt.2 hdue)
    exact congrArg Host.Outcome.next (if_neg hquiet)

/-! ### Long requests -/

/-- A long request admitted: WORKING and PENDING, its job posted, and the engine's choice (R55, R56, R141). -/
theorem State.onlyFrame_beginLong_postPortJob (s : State) (t : Nat) (p : Port) (r : LongRequest) (tag : Tag)
    (j : PortJob) :
    ((s.onlyFrame t p).beginLong p r tag).postPortJob p j =
      { s.advanceTo t with
        draws := s.draws + 1
        ports := s.ports.set p ((s.port p).begun (max s.now t) r tag)
        engine :=
          Engine.choose { s.engine with waiting := s.engine.waiting.set p (some j) } (max s.now t) s.draws } := by
  rw [State.onlyFrame_beginLong, State.postPortJob_eq]
  rfl

section
variable {s : State} {p : Port} (h : s.Admits p) (t : Nat) (tag : Tag)
include h

theorem exec_insertEntry_of_admits {f : EntryFields} (hf : f.Legal) :
    exec (.insertEntry t p tag 0 f.bytes) s = .next
      (if (s.line f.line).owner = some p then
        ((s.onlyFrame t p).beginLong p .insertEntry tag).postPortJob p (.insertion f)
       else s.answers t p tag .notOwner []) := by
  simp only [exec, execInsertEntry, (parseEntry_eq_some _ _).2 ⟨hf, rfl⟩]
  rw [State.request_of_admits h t tag {} f _ (fun h => nomatch h) rfl, State.onlyFrame_reply]
  rfl

theorem exec_deleteEntry_of_admits (id : EntryId) :
    exec (.deleteEntry t p tag 0 [BitVec.ofNat 8 id.val]) s = .next
      (((s.onlyFrame t p).beginLong p .deleteEntry tag).postPortJob p (.entryDeletion id)) := by
  simp only [exec, execDeleteEntry, (parseIdBody_eq_some _ _).2 rfl]
  rw [State.request_of_admits h t tag {} id _ (fun h => nomatch h) rfl]

theorem exec_clearLineEntries_of_admits (l : Line) :
    exec (.clearLineEntries t p tag 0 [BitVec.ofNat 8 l.val]) s = .next
      (if (s.line l).owner = some p then
        ((s.onlyFrame t p).beginLong p .clearLineEntries tag).postPortJob p (.lineClear l)
       else s.answers t p tag .notOwner []) := by
  simp only [exec, execClearLineEntries, (parseLineBody_eq_some _ _).2 rfl]
  rw [State.request_of_admits h t tag {} l _ (fun h => nomatch h) rfl, State.onlyFrame_reply]
  rfl

theorem exec_releaseLine_of_owner {l : Line} (howner : (s.line l).owner = some p) :
    exec (.releaseLine t p tag 0 [BitVec.ofNat 8 l.val]) s = .next
      ((((s.onlyFrame t p).setLine l (s.line l).safed).beginLong p .releaseLine tag).postPortJob p
        (.releaseDeletion l)) := by
  simp only [exec, execReleaseLine, (parseLineBody_eq_some _ _).2 rfl]
  rw [State.request_of_admits h t tag {} l _ (fun h => nomatch h) rfl, State.onlyFrame_line, if_pos howner,
    LineState.makeSafe_eq]

theorem exec_readEntry_of_admits (id : EntryId) :
    exec (.readEntry t p tag 0 [BitVec.ofNat 8 id.val]) s = .next
      (match s.slot id with
       | none => s.answers t p tag .noEntry []
       | some e => if e.owner = p then s.answers t p tag .ok (e.body id) else s.answers t p tag .notOwner []) := by
  simp only [exec, execReadEntry, (parseIdBody_eq_some _ _).2 rfl]
  rw [State.request_of_admits h t tag {} id _ (fun h => nomatch h) rfl, State.onlyFrame_slot]
  cases s.slot id with
  | none => exact congrArg Host.Outcome.next (s.onlyFrame_reply t p tag .noEntry [])
  | some e =>
    dsimp only
    rw [State.onlyFrame_reply, State.onlyFrame_reply]

theorem exec_listEntries_of_admits (id : EntryId) :
    exec (.listEntries t p tag 0 [BitVec.ofNat 8 id.val]) s = .next
      (s.answers t p tag .ok (listBody (s.ownedFrom p id))) := by
  simp only [exec, execListEntries, (parseIdBody_eq_some _ _).2 rfl]
  rw [State.request_of_admits h t tag {} id _ (fun h => nomatch h) rfl, State.onlyFrame_reply]
  rfl

end

/-- Settles O25, request by request. -/
theorem longRequestsPostTheirJobs : Obligations.LongRequestsPostTheirJobs := by
  intro t p tag s h
  have hposted := s.onlyFrame_beginLong_postPortJob t p
  refine ⟨fun f hf => ⟨fun howner => ?_, fun hother => ?_⟩, fun id => ?_, fun l =>
    ⟨fun howner => ?_, fun howner => ?_, fun hother => ?_⟩⟩
  · rw [exec_insertEntry_of_admits h t tag hf, if_pos howner, hposted]
  · rw [exec_insertEntry_of_admits h t tag hf, if_neg hother]
  · rw [exec_deleteEntry_of_admits h, hposted]
  · rw [exec_clearLineEntries_of_admits h, if_pos howner, hposted]
  · rw [exec_releaseLine_of_owner h t tag howner]
    exact congrArg (fun u : State => Host.Outcome.next { u with lines := s.lines.set l (s.line l).safed })
      (hposted .releaseLine tag (.releaseDeletion l))
  · rw [exec_clearLineEntries_of_admits h, if_neg hother]

/-! ### Entries read -/

/-- The status of the entry in a slot, and PENDING for an empty slot. -/
def State.statusAt (s : State) (i : EntryId) : EntryStatus :=
  match s.slot i with
  | some e => e.status
  | none => .pending

/-- LIST_ENTRIES shows the port's occupied slots from the starting id on, in ascending order (R67). -/
theorem State.ownedFrom_eq (s : State) (p : Port) (start : EntryId) :
    s.ownedFrom p start =
      ((List.finRange 128).filter fun i => decide (start ≤ i) && (s.slot i).any fun e => decide (e.owner = p)).map
        fun i => (i, s.statusAt i) := by
  rw [State.ownedFrom, Bank.indexed_eq, List.filterMap_map, ← List.filterMap_eq_map, List.filterMap_filter]
  refine List.filterMap_congr fun i _ => ?_
  simp only [Function.comp, State.slots_get, State.statusAt]
  cases s.slot i with
  | none => simp
  | some e => simp [and_comm]

/-- Settles O26: the four requests only answer, and the list is that of the port's slots. -/
theorem entriesAreReadWithoutChange : Obligations.EntriesAreReadWithoutChange := by
  intro t p tag id s h
  have hread := exec_readEntry_of_admits h t tag id
  refine ⟨fun hempty => ?_, fun e he hother => ?_, fun e he hown => ?_, _, rfl, ?_⟩
  · rw [hread, hempty]
  · rw [hread, he]
    exact congrArg Host.Outcome.next (if_neg hother)
  · rw [hread, he]
    subst hown
    exact congrArg Host.Outcome.next (if_pos rfl)
  · rw [exec_listEntries_of_admits h, State.ownedFrom_eq]
    generalize (List.finRange 128).filter _ = shown
    have hcode : ∀ i, (s.statusAt i).code =
        match s.slot i with
        | some e => e.status.code
        | none => 0 := fun i => by
      unfold State.statusAt
      cases s.slot i <;> rfl
    simp only [listBody, ← List.map_take, List.length_map, List.length_take, List.flatMap_map, hcode, flagByte,
      decide_eq_true_eq]
    rfl

end Sys2Proof.Machine
end

section
/-! The walk order, and what a reached entry does. -/

namespace Sys2Proof.Machine

/-! ### The walk order -/

/-- The order in which the walk sorts its entries is the manual's (R54). -/
theorem walkPairLE_eq_true (x y : EntryId × Entry) : walkPairLE x y = true ↔ x.2.walksBefore y.2 :=
  decide_eq_true_iff

theorem walkPairLE_total (x y : EntryId × Entry) : walkPairLE x y = true ∨ walkPairLE y x = true := by
  simp only [walkPairLE_eq_true, Entry.walksBefore]
  omega

theorem walkPairLE_trans (x y z : EntryId × Entry) (hxy : walkPairLE x y = true) (hyz : walkPairLE y z = true) :
    walkPairLE x z = true := by
  simp only [walkPairLE_eq_true, Entry.walksBefore] at *
  omega

theorem State.nodup_activeEntries (s : State) : (s.activeEntries.map (·.1)).Nodup := by
  rw [State.activeEntries_eq, List.map_filterMap]
  refine (List.nodup_finRange 128).filterMap fun i j k hi hj => ?_
  have hslot : ∀ i, k ∈ Option.map (·.1)
      (match s.slot i with
       | some e => if e.status = .active then some (i, e) else none
       | none => none) → k = i := fun i hi => by
    obtain ⟨x, hx, rfl⟩ := Option.map_eq_some_iff.1 hi
    split at hx
    · split at hx <;> cases hx
      rfl
    · cases hx
  exact (hslot i hi).symm.trans (hslot j hj)

/-- Settles O42: the walk order sorts the ACTIVE entries, of which each slot has one at most. -/
theorem walkOrderIsTheOrderOfTheManual : Obligations.WalkOrderIsTheOrderOfTheManual := by
  intro s
  have hperm : s.walkOrder.Perm s.activeEntries := List.perm_insertionSort _ _
  refine ⟨s.mem_walkOrder, (hperm.map _).nodup_iff.2 s.nodup_activeEntries, ?_⟩
  have : Std.Total fun x y : EntryId × Entry => walkPairLE x y = true := ⟨walkPairLE_total⟩
  have : IsTrans (EntryId × Entry) fun x y => walkPairLE x y = true := ⟨walkPairLE_trans⟩
  exact (List.pairwise_insertionSort (fun x y => walkPairLE x y = true) s.activeEntries).imp
    fun h => (walkPairLE_eq_true _ _).1 h

/-! ### A reached entry -/

theorem CycleFilter.passes_eq_true (f : CycleFilter) (cycle : Count32) :
    f.passes cycle = true ↔ ∀ n off, f = .nth n off → cycle.toNat % n = off := by
  cases f with
  | every => simp [CycleFilter.passes]
  | once => simp [CycleFilter.passes]
  | nth n off => simp [CycleFilter.passes]

/-- The walker fires an entry by the conditions of R78. -/
theorem State.fires_eq_true (s : State) (id : EntryId) (e : Entry) (cycle : Count32) :
    s.fires id e cycle = true ↔ s.Fires id e cycle := by
  simp only [State.fires, State.Fires, Bool.and_eq_true, decide_eq_true_eq, CycleFilter.passes_eq_true]
  tauto

/-- The effect of a firing on its line, by its action (R84 to R88). -/
theorem Entry.actOn_eq (e : Entry) (id : EntryId) (cycle : Count32) (now : Nat) (l : LineState) :
    e.actOn id cycle now l =
      { l with
        active := decide (e.fields.action ≠ .clear)
        pulse :=
          match e.fields.action with
          | .set => .none
          | .clear => .none
          | .pulse .phase w =>
            if e.effective + w ≤ 4095 then .phaseEnd id e.seq (e.effective + w) cycle
            else .phaseEnd id e.seq (e.effective + w - 4096) (cycle + 1)
          | .pulse .time w => .timeEnd id e.seq (now + w) } := by
  unfold Entry.actOn
  cases e.fields.action with
  | set => rfl
  | clear => rfl
  | pulse kind w => cases kind <;> rfl

/-- A record posted, or not, to the owner that a rule names: it arrives there unless the session is CLOSED (R145). -/
theorem State.post_toOwner_if (s : State) (c : Prop) [Decidable c] (p : Port) (r : Record) :
    (if c then s.post (toOwner p) r else s) =
      { s with
        ports := s.ports.mapPort fun q ps => if c ∧ q = p ∧ ps.isClosed = false then ps.arrive r else ps } := by
  by_cases hc : c
  · simp only [hc, if_true, true_and, State.post_eq, toOwner, Bool.and_eq_true, decide_eq_true_eq, Bool.not_eq_true']
  · rw [if_neg hc]
    refine State.ext_fields _ _ rfl rfl rfl rfl rfl rfl rfl rfl rfl rfl rfl rfl rfl rfl fun q => ?_
    refine Eq.trans ?_ (PerPort.get_mapPort _ _ q).symm
    exact (if_neg fun h => hc h.1).symm

/-- A firing, the records, the entry and the engine changed only as its notice and its filter ask (R51, R78, R91, R92). -/
theorem State.fireEntry_eq (s : State) (id : EntryId) (e : Entry) (cycle : Count32) (phase : Nat) :
    s.fireEntry id e cycle phase =
      { s with
        lastFired := s.lastFired.set id (some cycle)
        lines := s.lines.set e.fields.line (e.actOn id cycle s.now (s.line e.fields.line))
        ports := s.ports.mapPort fun q ps =>
          if (e.fields.notify = true ∨ e.fields.filter = .once) ∧ q = e.owner ∧ ps.isClosed = false then
            ps.arrive (e.firedRecord id cycle phase)
          else ps
        slots := if e.fields.filter = .once then s.slots.set id (some { e with status := .spent }) else s.slots
        engine :=
          if e.fields.filter = .once then
            Engine.choose { s.engine with internal := s.engine.internal ++ [.spentRemoval id e.seq] } s.now s.draws
          else s.engine
        draws := if e.fields.filter = .once then s.draws + 1 else s.draws } := by
  unfold State.fireEntry
  dsimp only
  rw [State.post_toOwner_if]
  by_cases honce : e.fields.filter = .once
  · simp only [if_pos honce]
    rfl
  · simp only [if_neg honce]
    rfl

/-- Settles O43. -/
theorem reachedEntryFiresOrIsPassed : Obligations.ReachedEntryFiresOrIsPassed := by
  intro id e cycle last s he
  refine ⟨fun hpassed => ?_, fun hfires => ?_⟩
  · simp only [State.reach, he]
    exact if_neg fun h => hpassed ((s.fires_eq_true id e cycle).1 h)
  · have hfire : s.reach cycle last id = s.fireEntry id e cycle last := by
      simp only [State.reach, he]
      exact if_pos ((s.fires_eq_true id e cycle).2 hfires)
    rw [hfire, State.fireEntry_eq, Entry.actOn_eq]
    rfl

end Sys2Proof.Machine
end

section
/-! The ownership invariant in its parts: what the ports hold, the jobs the engine holds for them, and the sweeps; and
what each kind of change to the state makes of the parts. -/

namespace Sys2Proof.Machine

/-! ### The parts of the invariant -/

/-- What holds of what the ports hold and wait for (R46, R97, R100, R108, R119, R121, R124). -/
structure HoldingsInv (s : State) : Prop where
  entryLine : ∀ i e, s.slot i = some e → (s.line e.fields.line).owner = some e.owner
  lineOwner : ∀ l p, (s.line l).owner = some p → (s.port p).isClosed = false
  unownedEmpty : ∀ l, (s.line l).owner = none → (s.line l).waiting = []
  waiterOpen : ∀ l, ∀ w ∈ (s.line l).waiting, (s.port w.port).isOpen = true
  holderOpen : ∀ p, s.grant = some p → (s.port p).isOpen = true

/-- What holds of the jobs that the engine holds for the ports, idle or not (R55, R58). -/
structure JobsInv (s : State) : Prop where
  jobLine : ∀ p j l, s.engine.Holds p j → j.line = some l → (s.line l).owner = some p
  jobOpen : ∀ p j, s.engine.Holds p j → (s.port p).isClosed = false
  jobSlot : ∀ p j, s.engine.Holds p j → (s.port p).isOpen = true → ∃ tag, (s.port p).slot = .working j.request tag
  waitingOpen : ∀ p j, s.engine.waiting.get p = some j → (s.port p).isOpen = true
  oneJob : s.engine.OneJobEach

/-- A CLOSING port has one sweep coming, any other none (R119, R121). -/
def SweepsInv (s : State) : Prop :=
  ∀ p, s.engine.sweeps p = if (s.port p).isOpen || (s.port p).isClosed then 0 else 1

/-- The ownership invariant but for the engine's choice, which may be still to come. -/
structure Unchosen (s : State) : Prop where
  holdings : HoldingsInv s
  jobs : JobsInv s
  sweeps : SweepsInv s

theorem OwnershipInv.unchosen {s : State} (h : OwnershipInv s) : Unchosen s :=
  ⟨⟨h.entryLine, h.lineOwner, h.unownedEmpty, h.waiterOpen, h.holderOpen⟩,
    ⟨h.jobLine, h.jobOpen, h.jobSlot, h.waitingOpen, h.oneJob⟩, h.sweepOnce⟩

theorem Unchosen.ownershipInv {s : State} (h : Unchosen s)
    (hbusy : s.engine.service = none → s.engine.internal = [] ∧ ∀ p, s.engine.waiting.get p = none) :
    OwnershipInv s :=
  { h.holdings, h.jobs with sweepOnce := h.sweeps, busy := hbusy }

/-- The engine's choice makes the invariant whole. -/
theorem Unchosen.chooseJob {s : State} (h : Unchosen s) : OwnershipInv s.chooseJob := by
  obtain ⟨holdings, jobs, sweeps⟩ := h
  have hholds : ∀ p j, s.chooseJob.engine.Holds p j → s.engine.Holds p j := fun p j =>
    (Engine.choose_holds _ _ _ p j).1
  refine Unchosen.ownershipInv ⟨{ holdings with }, ?_, fun p => ?_⟩ Engine.idle_of_choose
  · exact
      { jobLine := fun p j l hj => jobs.jobLine p j l (hholds p j hj)
        jobOpen := fun p j hj => jobs.jobOpen p j (hholds p j hj)
        jobSlot := fun p j hj => jobs.jobSlot p j (hholds p j hj)
        waitingOpen := fun p j hj => jobs.waitingOpen p j (Engine.waiting_of_choose hj)
        oneJob := jobs.oneJob.choose _ _ }
  · exact (Engine.choose_sweeps _ _ _ p).trans (sweeps p)

/-! ### Changes that the invariant does not see -/

/-- A port whose session has the same state, and whose slot is the same. -/
structure PortState.SameStanding (ps qs : PortState) : Prop where
  isOpen : qs.isOpen = ps.isOpen
  isClosed : qs.isClosed = ps.isClosed
  slot : qs.slot = ps.slot

theorem PortState.SameStanding.refl (ps : PortState) : ps.SameStanding ps := ⟨rfl, rfl, rfl⟩

/-- `u` has no entry, waiting record or grant that `s` has not, and the same line owners. -/
structure State.HoldsNoMore (s u : State) : Prop where
  entries : ∀ i e, u.slot i = some e →
    ∃ e', s.slot i = some e' ∧ e'.owner = e.owner ∧ e'.fields.line = e.fields.line
  owner : ∀ l, (u.line l).owner = (s.line l).owner
  waiting : ∀ l, (u.line l).waiting ⊆ (s.line l).waiting
  grant : ∀ p, u.grant = some p → s.grant = some p

/-- `u` holds no more than `s`, with every port as it stands and the engine as it is. -/
structure State.SameOwnership (s u : State) : Prop extends s.HoldsNoMore u where
  standing : ∀ p, (s.port p).SameStanding (u.port p)
  engine : u.engine = s.engine

theorem State.HoldsNoMore.refl (s : State) : s.HoldsNoMore s :=
  ⟨fun _ e he => ⟨e, he, rfl, rfl⟩, fun _ => rfl, fun _ => List.Subset.refl _, fun _ => id⟩

theorem State.SameOwnership.refl (s : State) : s.SameOwnership s :=
  ⟨.refl s, fun p => .refl (s.port p), rfl⟩

theorem State.HoldsNoMore.trans {s u v : State} (h : s.HoldsNoMore u) (h' : u.HoldsNoMore v) : s.HoldsNoMore v where
  entries i e he := by
    obtain ⟨e', he', ho', hl'⟩ := h'.entries i e he
    obtain ⟨e'', he'', ho'', hl''⟩ := h.entries i e' he'
    exact ⟨e'', he'', ho''.trans ho', hl''.trans hl'⟩
  owner l := (h'.owner l).trans (h.owner l)
  waiting l _ hw := h.waiting l (h'.waiting l hw)
  grant p hp := h.grant p (h'.grant p hp)

theorem State.SameOwnership.trans {s u v : State} (h : s.SameOwnership u) (h' : u.SameOwnership v) :
    s.SameOwnership v :=
  { h.toHoldsNoMore.trans h'.toHoldsNoMore with
    standing := fun p =>
      ⟨(h'.standing p).isOpen.trans (h.standing p).isOpen, (h'.standing p).isClosed.trans (h.standing p).isClosed,
        (h'.standing p).slot.trans (h.standing p).slot⟩
    engine := h'.engine.trans h.engine }

theorem State.SameOwnership.ite {c : Prop} [Decidable c] {s u v : State} (h : s.SameOwnership u)
    (h' : s.SameOwnership v) : s.SameOwnership (if c then u else v) := by
  split <;> assumption

/-- No more is held by ports of which those that were OPEN still are, and none is newly CLOSED. -/
theorem HoldingsInv.of_holdsNoMore {s u : State} (h : HoldingsInv s) (hsu : s.HoldsNoMore u)
    (hopen : ∀ p, (s.port p).isOpen = true → (u.port p).isOpen = true)
    (hclosed : ∀ p, (s.port p).isClosed = false → (u.port p).isClosed = false) : HoldingsInv u where
  entryLine i e he := by
    obtain ⟨e', he', ho, hl⟩ := hsu.entries i e he
    rw [hsu.owner, ← hl, ← ho]
    exact h.entryLine i e' he'
  lineOwner l p hp := hclosed p (h.lineOwner l p (hsu.owner l ▸ hp))
  unownedEmpty l hl := List.subset_nil.1 (h.unownedEmpty l (hsu.owner l ▸ hl) ▸ hsu.waiting l)
  waiterOpen l w hw := hopen w.port (h.waiterOpen l w (hsu.waiting l hw))
  holderOpen p hp := hopen p (h.holderOpen p (hsu.grant p hp))

/-- The engine's jobs stay in order where every line and port that a job needs stays as the job needs it. -/
theorem JobsInv.of_jobs_same {s u : State} (h : JobsInv s) (hengine : u.engine = s.engine)
    (howner : ∀ l p j, s.engine.Holds p j → j.line = some l → (u.line l).owner = (s.line l).owner)
    (hport : ∀ p j, s.engine.Holds p j → (s.port p).SameStanding (u.port p)) : JobsInv u where
  jobLine p j l hj hl := by
    rw [hengine] at hj
    rw [howner l p j hj hl]
    exact h.jobLine p j l hj hl
  jobOpen p j hj := by
    rw [hengine] at hj
    rw [(hport p j hj).isClosed]
    exact h.jobOpen p j hj
  jobSlot p j hj hopen := by
    rw [hengine] at hj
    rw [(hport p j hj).slot]
    exact h.jobSlot p j hj ((hport p j hj).isOpen ▸ hopen)
  waitingOpen p j hj := by
    rw [hengine] at hj
    rw [(hport p j (.inl hj)).isOpen]
    exact h.waitingOpen p j hj
  oneJob := hengine ▸ h.oneJob

theorem SweepsInv.of_same {s u : State} (h : SweepsInv s) (hengine : ∀ p, u.engine.sweeps p = s.engine.sweeps p)
    (hopen : ∀ p, (u.port p).isOpen = (s.port p).isOpen) (hclosed : ∀ p, (u.port p).isClosed = (s.port p).isClosed) :
    SweepsInv u := by
  intro p
  rw [hengine, hopen, hclosed, h p]

theorem Unchosen.of_same {s u : State} (h : Unchosen s) (hsu : s.SameOwnership u) : Unchosen u where
  holdings := h.holdings.of_holdsNoMore hsu.toHoldsNoMore (fun p hp => (hsu.standing p).isOpen.trans hp)
    fun p hp => (hsu.standing p).isClosed.trans hp
  jobs := h.jobs.of_jobs_same hsu.engine (fun l _ _ _ _ => hsu.owner l) fun p _ _ => hsu.standing p
  sweeps := h.sweeps.of_same (fun p => by rw [hsu.engine]) (fun p => (hsu.standing p).isOpen)
    fun p => (hsu.standing p).isClosed

theorem OwnershipInv.of_same {s u : State} (h : OwnershipInv s) (hsu : s.SameOwnership u) : OwnershipInv u :=
  (h.unchosen.of_same hsu).ownershipInv (hsu.engine ▸ h.busy)

/-! ### One entry, one line, one port -/

theorem State.SameOwnership.of_setPort {s : State} {p : Port} {x : PortState} (h : (s.port p).SameStanding x) :
    s.SameOwnership (s.setPort p x) :=
  { State.HoldsNoMore.refl s with
    standing := fun q => by
      rw [State.setPort_port]
      split
      · rename_i hq
        exact hq ▸ h
      · exact .refl _
    engine := rfl }

theorem State.SameOwnership.of_setLine {s : State} {l : Line} {x : LineState} (howner : x.owner = (s.line l).owner)
    (hwaiting : x.waiting ⊆ (s.line l).waiting) : s.SameOwnership (s.setLine l x) :=
  { State.SameOwnership.refl s with
    owner := fun k => by
      rw [State.setLine_line]
      split
      · rename_i hk
        exact hk ▸ howner
      · rfl
    waiting := fun k => by
      rw [State.setLine_line]
      split
      · rename_i hk
        exact hk ▸ hwaiting
      · exact List.Subset.refl _ }

/-- The lines changed alike, each keeping its owner and waiting list. -/
theorem State.SameOwnership.of_mapLines {s : State} {f : LineState → LineState}
    (hf : ∀ l, (f l).owner = l.owner ∧ (f l).waiting = l.waiting) : s.SameOwnership (s.setLines (s.lines.map f)) :=
  { State.SameOwnership.refl s with
    owner := fun l => by
      rw [State.setLines_line, Bank.get_map]
      exact (hf _).1
    waiting := fun l => by
      rw [State.setLines_line, Bank.get_map, (hf _).2]
      exact List.Subset.refl _ }

/-- The entries changed alike, each keeping its owner and line. -/
theorem State.SameOwnership.of_mapEntries {s : State} {f : Entry → Entry}
    (hf : ∀ e, (f e).owner = e.owner ∧ (f e).fields = e.fields) :
    s.SameOwnership (s.setSlots (s.slots.map fun o => o.map f)) :=
  { State.SameOwnership.refl s with
    entries := fun i e he => by
      rw [State.setSlots_slot, Bank.get_map] at he
      obtain ⟨e', he', rfl⟩ := Option.map_eq_some_iff.1 he
      exact ⟨e', he', (hf e').1.symm, by rw [(hf e').2]⟩ }

theorem State.SameOwnership.of_removeEntries (s : State) (drop : Entry → Bool) :
    s.SameOwnership (s.removeEntries drop) :=
  { State.SameOwnership.refl s with
    entries := fun i e he => by
      rw [State.removeEntries, State.setSlots_slot, Bank.get_map] at he
      exact ⟨e, (Option.filter_eq_some_iff.1 he).1, rfl, rfl⟩ }

theorem State.SameOwnership.of_setSlot_none (s : State) (i : EntryId) : s.SameOwnership (s.setSlot i none) :=
  { State.SameOwnership.refl s with
    entries := fun j e he => by
      rw [State.setSlot_slot] at he
      split at he
      · cases he
      · exact ⟨e, he, rfl, rfl⟩ }

/-- An entry on a line of its owner, put into a slot. -/
theorem Unchosen.setSlot {s : State} (h : Unchosen s) (i : EntryId) {e : Entry}
    (he : (s.line e.fields.line).owner = some e.owner) : Unchosen (s.setSlot i (some e)) :=
  { h with
    holdings :=
      { h.holdings with
        entryLine := fun j e' he' => by
          rw [State.setSlot_slot] at he'
          split at he'
          · cases he'
            exact he
          · exact h.holdings.entryLine j e' he' }
    jobs := { h.jobs with } }

/-- A line changed: an owned one keeps its owner, and owner and waiting ports can be what they are. -/
theorem OwnershipInv.setLine {s : State} (h : OwnershipInv s) {l : Line} {x : LineState}
    (hkept : ∀ p, (s.line l).owner = some p → x.owner = some p)
    (howner : ∀ p, x.owner = some p → (s.port p).isClosed = false) (hempty : x.owner = none → x.waiting = [])
    (hwaiting : ∀ w ∈ x.waiting, (s.port w.port).isOpen = true) : OwnershipInv (s.setLine l x) := by
  have hline : ∀ k p, (s.line k).owner = some p → ((s.setLine l x).line k).owner = some p := fun k p hk => by
    rw [State.setLine_line]
    split
    · rename_i hlk
      subst hlk
      exact hkept p hk
    · exact hk
  have hlines : ∀ P : LineState → Prop, P x → (∀ k, P (s.line k)) → ∀ k, P ((s.setLine l x).line k) :=
    fun P hx hs k => by
      rw [State.setLine_line]
      split
      · exact hx
      · exact hs k
  exact
    { h with
      entryLine := fun i e he => hline _ _ (h.entryLine i e he)
      lineOwner := hlines (fun y => ∀ p, y.owner = some p → (s.port p).isClosed = false) howner h.lineOwner
      unownedEmpty := hlines (fun y => y.owner = none → y.waiting = []) hempty h.unownedEmpty
      waiterOpen := hlines (fun y => ∀ w ∈ y.waiting, (s.port w.port).isOpen = true) hwaiting h.waiterOpen
      jobLine := fun p j k hj hk => hline _ _ (h.jobLine p j k hj hk) }

theorem OwnershipInv.setGrant {s : State} (h : OwnershipInv s) {p : Port} (hp : (s.port p).isOpen = true) :
    OwnershipInv (s.setGrant (some p)) :=
  { h with
    holderOpen := fun q hq => by
      cases hq
      exact hp }

/-- An OPEN port with an IDLE slot has no job (R132). -/
theorem JobsInv.no_job_of_idle {s : State} (h : JobsInv s) {p : Port} (hidle : (s.port p).slot = .idle)
    (hopen : (s.port p).isOpen = true) (j : PortJob) : ¬s.engine.Holds p j := fun hj => by
  obtain ⟨tag, htag⟩ := h.jobSlot p j hj hopen
  cases hidle.symm.trans htag

/-- A CLOSED port has no job. -/
theorem JobsInv.no_job_of_closed {s : State} (h : JobsInv s) {p : Port} (hclosed : (s.port p).isClosed = true)
    (j : PortJob) : ¬s.engine.Holds p j := fun hj => by
  cases hclosed.symm.trans (h.jobOpen p j hj)

end Sys2Proof.Machine
end

section
/-! The ownership invariant along the engine's work: jobs posted, teardowns begun, jobs in service done, lines handed
over, ports closed. -/

namespace Sys2Proof.Machine

/-! ### Jobs posted -/

/-- The part with a job in its port's place, before the engine chooses (R55). -/
def State.posting (s : State) (p : Port) (j : PortJob) : State :=
  s.setEngine { s.engine with waiting := s.engine.waiting.set p (some j) }

theorem State.postPortJob_eq_chooseJob (s : State) (p : Port) (j : PortJob) :
    s.postPortJob p j = (s.posting p j).chooseJob := rfl

theorem State.posting_waiting_ne {s : State} {p q : Port} {j k : PortJob} (hqp : q ≠ p)
    (h : (s.posting p j).engine.waiting.get q = some k) : s.engine.waiting.get q = some k :=
  (PerPort.get_set_ne _ _ hqp).symm.trans h

/-- The job posted is the one job that its port gains. -/
theorem State.posting_holds {s : State} {p q : Port} {j k : PortJob} (h : (s.posting p j).engine.Holds q k) :
    q = p ∧ k = j ∨ s.engine.Holds q k := by
  by_cases hqp : q = p
  · subst hqp
    obtain h | h := h
    · exact .inl ⟨rfl, Option.some.inj (h.symm.trans (PerPort.get_set_self _ _ _))⟩
    · exact .inr (.inr h)
  · exact .inr (h.imp (State.posting_waiting_ne hqp) id)

theorem State.beginLong_port_ne (s : State) {p q : Port} (h : q ≠ p) (r : LongRequest) (tag : Tag) :
    (s.beginLong p r tag).port q = s.port q :=
  State.setPort_port_ne _ _ h

/-- A long request begun leaves every session as it is. -/
theorem State.beginLong_session (s : State) (p q : Port) (r : LongRequest) (tag : Tag) :
    ((s.beginLong p r tag).port q).isOpen = (s.port q).isOpen ∧
      ((s.beginLong p r tag).port q).isClosed = (s.port q).isClosed := by
  by_cases hqp : q = p
  · subst hqp
    rw [State.beginLong_port_self]
    exact ⟨rfl, rfl⟩
  · rw [s.beginLong_port_ne hqp]
    exact ⟨rfl, rfl⟩

/-- A port with no job, OPEN, posts one on lines of its own, and its slot is WORKING with it (R55, R141). -/
theorem JobsInv.posting {s : State} (h : JobsInv s) {p : Port} (hnone : ∀ k, ¬s.engine.Holds p k)
    (hopen : (s.port p).isOpen = true) (j : PortJob) (hline : ∀ l, j.line = some l → (s.line l).owner = some p)
    (tag : Tag) : JobsInv ((s.beginLong p j.request tag).posting p j) where
  jobLine q k l hk hl := by
    obtain ⟨rfl, rfl⟩ | hk := State.posting_holds hk
    · exact hline l hl
    · exact h.jobLine q k l hk hl
  jobOpen q k hk := by
    refine (s.beginLong_session p q _ tag).2.trans ?_
    obtain ⟨rfl, rfl⟩ | hk := State.posting_holds hk
    · exact PortState.not_closed_of_open _ hopen
    · exact h.jobOpen q k hk
  jobSlot q k hk hq := by
    obtain ⟨rfl, rfl⟩ | hk := State.posting_holds hk
    · exact ⟨tag, congrArg PortState.slot (s.beginLong_port_self q k.request tag)⟩
    · have hqp : q ≠ p := fun hqp => hnone k (hqp ▸ hk)
      have hport := s.beginLong_port_ne hqp j.request tag
      rw [State.posting, State.setEngine_port, hport] at hq ⊢
      exact h.jobSlot q k hk hq
  waitingOpen q k hk := by
    refine (s.beginLong_session p q _ tag).1.trans ?_
    by_cases hqp : q = p
    · exact hqp ▸ hopen
    · exact h.waitingOpen q k (State.posting_waiting_ne hqp hk)
  oneJob q k v hk hv m hm := by
    by_cases hqp : q = p
    · exact hnone m (hqp ▸ .inr ⟨v, hv, hm⟩)
    · exact h.oneJob q k v (State.posting_waiting_ne hqp hk) hv m hm

/-- A long request of an OPEN port with an IDLE slot, on lines of its own: its job joins the port queue, and the engine
chooses (R55, R56, R141). -/
theorem OwnershipInv.postPortJob {s : State} (h : OwnershipInv s) {p : Port} (hidle : (s.port p).slot = .idle)
    (hopen : (s.port p).isOpen = true) (j : PortJob) (hline : ∀ l, j.line = some l → (s.line l).owner = some p)
    (tag : Tag) : OwnershipInv ((s.beginLong p j.request tag).postPortJob p j) := by
  obtain ⟨holdings, jobs, sweeps⟩ := h.unchosen
  have hsession := fun q => s.beginLong_session p q j.request tag
  rw [State.postPortJob_eq_chooseJob]
  refine Unchosen.chooseJob ⟨?_, jobs.posting (jobs.no_job_of_idle hidle hopen) hopen j hline tag,
    sweeps.of_same (fun _ => rfl) (fun q => (hsession q).1) fun q => (hsession q).2⟩
  exact holdings.of_holdsNoMore { State.HoldsNoMore.refl s with } (fun q hq => (hsession q).1.trans hq)
    fun q hq => (hsession q).2.trans hq

/-! ### Sessions opened and teardowns begun -/

/-- A CLOSED port that is opened, whatever else becomes of it (R114). -/
theorem OwnershipInv.openPort {s : State} (h : OwnershipInv s) {p : Port} {x : PortState}
    (hclosed : (s.port p).isClosed = true) (hx : x.isOpen = true) : OwnershipInv (s.setPort p x) := by
  obtain ⟨holdings, jobs, sweeps⟩ := h.unchosen
  refine Unchosen.ownershipInv ⟨?_, ?_, fun q => ?_⟩ h.busy
  · refine holdings.of_holdsNoMore { State.HoldsNoMore.refl s with } (fun q hq => ?_) fun q hq => ?_
    · rw [State.setPort_port]
      split
      · exact hx
      · exact hq
    · rw [State.setPort_port]
      split
      · exact PortState.not_closed_of_open x hx
      · exact hq
  · refine jobs.of_jobs_same rfl (fun _ _ _ _ _ => rfl) fun q j hj => ?_
    have hqp : q ≠ p := fun hqp => jobs.no_job_of_closed hclosed j (hqp ▸ hj)
    rw [State.setPort_port_ne _ _ hqp]
    exact .refl _
  · refine (sweeps q).trans ?_
    by_cases hqp : q = p
    · subst hqp
      simp [hclosed, hx]
    · rw [State.setPort_port_ne _ _ hqp]

/-- The part with a teardown of `p` begun, before the engine chooses (R58, R108, R119). -/
def State.tearingDown (s : State) (p : Port) : State :=
  { s with
    lines := s.lines.map (LineState.afterTeardownOf p)
    grant := if s.grant = some p then none else s.grant
    engine := { s.engine with waiting := s.engine.waiting.set p none
                              internal := s.engine.internal ++ [.sweep p] } }

theorem State.beginTeardown_eq_chooseJob (s : State) (p : Port) :
    s.beginTeardown p = (s.tearingDown p).chooseJob :=
  s.beginTeardown_eq p

theorem State.tearingDown_line (s : State) (p : Port) (l : Line) :
    (s.tearingDown p).line l = (s.line l).afterTeardownOf p :=
  Bank.get_map _ _ l

@[simp] theorem LineState.safed_owner (l : LineState) : l.safed.owner = l.owner := by
  unfold LineState.safed
  split <;> rfl

@[simp] theorem LineState.safed_waiting (l : LineState) : l.safed.waiting = l.waiting := by
  unfold LineState.safed
  split <;> rfl

theorem LineState.afterTeardownOf_owner (p : Port) (l : LineState) : (l.afterTeardownOf p).owner = l.owner := by
  unfold LineState.afterTeardownOf
  split
  · exact l.safed_owner
  · rfl

theorem LineState.mem_afterTeardownOf_waiting (p : Port) (l : LineState) (w : Waiter) :
    w ∈ (l.afterTeardownOf p).waiting ↔ w ∈ l.waiting ∧ w.port ≠ p := by
  simp [LineState.afterTeardownOf]

theorem State.tearingDown_waiting {s : State} {p q : Port} {j : PortJob}
    (h : (s.tearingDown p).engine.waiting.get q = some j) : q ≠ p ∧ s.engine.waiting.get q = some j := by
  replace h : (s.engine.waiting.set p none).get q = some j := h
  rw [PerPort.get_set] at h
  split at h
  · cases h
  · exact ⟨Ne.symm ‹_›, h⟩

/-- A waiting job withdrawn leaves the jobs that other ports have, and of that port the one in service (R58). -/
theorem State.tearingDown_holds {s : State} {p q : Port} {j : PortJob} (h : (s.tearingDown p).engine.Holds q j) :
    s.engine.Holds q j :=
  h.imp (fun h => (State.tearingDown_waiting h).2) id

theorem State.tearingDown_sweeps (s : State) (p q : Port) :
    (s.tearingDown p).engine.sweeps q = s.engine.sweeps q + if p = q then 1 else 0 := by
  simp [State.tearingDown, Engine.sweeps, List.count_singleton, Nat.add_assoc]

section
variable {s : State} {p : Port} {x : PortState}

theorem State.tearingDown_port_self : ((s.setPort p x).tearingDown p).port p = x := State.setPort_port_self _ _ _

theorem State.tearingDown_port_ne {q : Port} (h : q ≠ p) : ((s.setPort p x).tearingDown p).port q = s.port q :=
  State.setPort_port_ne _ _ h

/-- A teardown that begins closes no session. -/
theorem State.tearingDown_not_closed (hx : x.isClosed = false) {q : Port} (h : (s.port q).isClosed = false) :
    (((s.setPort p x).tearingDown p).port q).isClosed = false := by
  by_cases hqp : q = p
  · rw [hqp, State.tearingDown_port_self]
    exact hx
  · rwa [State.tearingDown_port_ne hqp]

theorem State.tearingDown_owner (l : Line) :
    (((s.setPort p x).tearingDown p).line l).owner = (s.line l).owner := by
  rw [State.tearingDown_line, LineState.afterTeardownOf_owner, State.setPort_line]

theorem State.mem_tearingDown_waiting (l : Line) (w : Waiter) :
    w ∈ (((s.setPort p x).tearingDown p).line l).waiting ↔ w ∈ (s.line l).waiting ∧ w.port ≠ p := by
  rw [State.tearingDown_line, LineState.mem_afterTeardownOf_waiting, State.setPort_line]

/-- The port keeps its lines and entries, and loses its waiting records and the grant (R108, R119). -/
theorem HoldingsInv.tearingDown (h : HoldingsInv s) (hx : x.isClosed = false) :
    HoldingsInv ((s.setPort p x).tearingDown p) where
  entryLine i e he := by
    rw [State.tearingDown_owner]
    exact h.entryLine i e he
  lineOwner l q hq := State.tearingDown_not_closed hx (h.lineOwner l q (State.tearingDown_owner l ▸ hq))
  unownedEmpty l hl := by
    rw [State.tearingDown_owner] at hl
    refine List.eq_nil_iff_forall_not_mem.2 fun w hw => ?_
    have hw := ((State.mem_tearingDown_waiting l w).1 hw).1
    rw [h.unownedEmpty l hl] at hw
    cases hw
  waiterOpen l w hw := by
    obtain ⟨hw, hne⟩ := (State.mem_tearingDown_waiting l w).1 hw
    rw [State.tearingDown_port_ne hne]
    exact h.waiterOpen l w hw
  holderOpen q hq := by
    replace hq : (if s.grant = some p then none else s.grant) = some q := hq
    split at hq
    · cases hq
    · rename_i hfree
      have hqp : q ≠ p := fun hqp => hfree (hqp ▸ hq)
      rw [State.tearingDown_port_ne hqp]
      exact h.holderOpen q hq

/-- The port's waiting job is withdrawn; one in service stays with its lines (R58). -/
theorem JobsInv.tearingDown (h : JobsInv s) (hx : x.isOpen = false) (hx' : x.isClosed = false) :
    JobsInv ((s.setPort p x).tearingDown p) where
  jobLine q j l hj hl := by
    rw [State.tearingDown_owner]
    exact h.jobLine q j l (State.tearingDown_holds hj) hl
  jobOpen q j hj := State.tearingDown_not_closed hx' (h.jobOpen q j (State.tearingDown_holds hj))
  jobSlot q j hj hq := by
    have hqp : q ≠ p := fun hqp => by
      rw [hqp, State.tearingDown_port_self, hx] at hq
      cases hq
    rw [State.tearingDown_port_ne hqp] at hq ⊢
    exact h.jobSlot q j (State.tearingDown_holds hj) hq
  waitingOpen q j hj := by
    obtain ⟨hqp, hj⟩ := State.tearingDown_waiting hj
    rw [State.tearingDown_port_ne hqp]
    exact h.waitingOpen q j hj
  oneJob q j v hj hv := h.oneJob q j v (State.tearingDown_waiting hj).2 hv

/-- The port, which was OPEN, has its one sweep coming (R119). -/
theorem SweepsInv.tearingDown (h : SweepsInv s) (hopen : (s.port p).isOpen = true) (hx : x.isOpen = false)
    (hx' : x.isClosed = false) : SweepsInv ((s.setPort p x).tearingDown p) := fun q => by
  rw [State.tearingDown_sweeps]
  by_cases hqp : q = p
  · subst hqp
    rw [State.tearingDown_port_self]
    simp [h q, hopen, hx, hx']
  · rw [State.tearingDown_port_ne hqp, if_neg (Ne.symm hqp)]
    exact h q

/-- A teardown begins at an OPEN port, which becomes CLOSING, with whatever slot (R119). -/
theorem OwnershipInv.beginTeardown (h : OwnershipInv s) (hopen : (s.port p).isOpen = true) (hx : x.isOpen = false)
    (hx' : x.isClosed = false) : OwnershipInv ((s.setPort p x).beginTeardown p) := by
  obtain ⟨holdings, jobs, sweeps⟩ := h.unchosen
  rw [State.beginTeardown_eq_chooseJob]
  exact Unchosen.chooseJob ⟨holdings.tearingDown hx', jobs.tearingDown hx hx', sweeps.tearingDown hopen hx hx'⟩

end

/-! ### The job in service is done -/

theorem State.served_holds {s : State} {p : Port} {j : PortJob} (h : s.served.engine.Holds p j) :
    s.engine.Holds p j := by
  obtain h | ⟨v, hv, -⟩ := h
  · exact .inl h
  · cases hv

/-- The port whose job is done has none left (R55). -/
theorem JobsInv.no_job_of_served {s : State} (h : JobsInv s) {v : Service} {p : Port} {j : PortJob}
    (hv : s.engine.service = some v) (hj : v.job = .port p j) (k : PortJob) : ¬s.served.engine.Holds p k := by
  rintro (hk | ⟨w, hw, -⟩)
  · exact h.oneJob p k v hk hv j hj
  · cases hw

theorem JobsInv.served {s : State} (h : JobsInv s) : JobsInv s.served where
  jobLine p j l hj := h.jobLine p j l (State.served_holds hj)
  jobOpen p j hj := h.jobOpen p j (State.served_holds hj)
  jobSlot p j hj := h.jobSlot p j (State.served_holds hj)
  waitingOpen := h.waitingOpen
  oneJob := fun _ _ _ _ hv => nomatch hv

theorem HoldingsInv.served {s : State} (h : HoldingsInv s) : HoldingsInv s.served := { h with }

/-- A sweep in service is one of those that the engine has not completed. -/
theorem State.served_sweeps {s : State} {v : Service} (hv : s.engine.service = some v) (p : Port) :
    s.engine.sweeps p = (if v.job = .internal (.sweep p) then 1 else 0) + s.served.engine.sweeps p := by
  simp [State.served, Engine.sweeps, hv]

/-- A job other than a sweep is done. -/
theorem Unchosen.served {s : State} (h : Unchosen s) {v : Service} (hv : s.engine.service = some v)
    (hj : ∀ p, v.job ≠ .internal (.sweep p)) : Unchosen s.served where
  holdings := h.holdings.served
  jobs := h.jobs.served
  sweeps := h.sweeps.of_same (fun p => by rw [State.served_sweeps hv, if_neg (hj p), Nat.zero_add]) (fun _ => rfl)
    fun _ => rfl

@[simp] theorem PortState.completed_isOpen (ps : PortState) (r : LongRequest) (st : Status) (body : List Byte) :
    (ps.completed r st body).isOpen = ps.isOpen := by
  unfold PortState.completed
  split
  · split <;> rfl
  · rfl
  · rfl

@[simp] theorem PortState.completed_isClosed (ps : PortState) (r : LongRequest) (st : Status) (body : List Byte) :
    (ps.completed r st body).isClosed = ps.isClosed := by
  unfold PortState.completed
  split
  · split <;> rfl
  · rfl
  · rfl

/-- A port with no job left may have its long request answered (R136). -/
theorem Unchosen.finishLong {s : State} (h : Unchosen s) {p : Port} (hnone : ∀ j, ¬s.engine.Holds p j)
    (r : LongRequest) (st : Status) (body : List Byte) : Unchosen (s.finishLong p r st body) := by
  have hport : ∀ q, ((s.finishLong p r st body).port q).isOpen = (s.port q).isOpen ∧
      ((s.finishLong p r st body).port q).isClosed = (s.port q).isClosed := fun q => by
    rw [State.finishLong_eq, State.setPort_port]
    split
    · rename_i hq
      subst hq
      exact ⟨PortState.completed_isOpen .., PortState.completed_isClosed ..⟩
    · exact ⟨rfl, rfl⟩
  refine ⟨h.holdings.of_holdsNoMore ?_ (fun q hq => (hport q).1.trans hq) fun q hq => (hport q).2.trans hq,
    h.jobs.of_jobs_same ?_ ?_ fun q j hj => ?_,
    h.sweeps.of_same (fun q => ?_) (fun q => (hport q).1) fun q => (hport q).2⟩
  · rw [State.finishLong_eq]
    exact { State.HoldsNoMore.refl s with }
  · rw [State.finishLong_eq]
    rfl
  · rw [State.finishLong_eq]
    exact fun _ _ _ _ _ => rfl
  · have hqp : q ≠ p := fun hqp => hnone j (hqp ▸ hj)
    rw [State.finishLong_eq, State.setPort_port_ne _ _ hqp]
    exact .refl _
  · rw [State.finishLong_eq]
    rfl

/-! ### Lines handed over -/

/-- Lines of one port are handed over, with none of its entries left on them: each is its first waiter's, which is OPEN,
or RELEASED (R100). -/
theorem HoldingsInv.handOver {s u : State} (h : HoldingsInv s) {p : Port} {S : Line → Prop} [DecidablePred S]
    (hS : ∀ l, S l → (s.line l).owner = some p)
    (hslot : ∀ i e, u.slot i = some e → s.slot i = some e ∧ (e.owner = p → ¬S e.fields.line))
    (hline : ∀ l, u.line l = if S l then (s.line l).handedOver else s.line l)
    (hopen : ∀ q, (s.port q).isOpen = true → (u.port q).isOpen = true)
    (hclosed : ∀ l q, ¬S l → (s.line l).owner = some q → (u.port q).isClosed = false) (hgrant : u.grant = s.grant) :
    HoldingsInv u where
  entryLine i e he := by
    obtain ⟨he, hne⟩ := hslot i e he
    have howner := h.entryLine i e he
    rw [hline, if_neg fun hl => hne (Option.some.inj (howner.symm.trans (hS _ hl))) hl]
    exact howner
  lineOwner l q hq := by
    rw [hline] at hq
    split at hq
    · rw [LineState.handedOver_owner] at hq
      obtain ⟨w, hw, rfl⟩ := Option.map_eq_some_iff.1 hq
      exact PortState.not_closed_of_open _ (hopen _ (h.waiterOpen l w (List.mem_of_mem_head? hw)))
    · rename_i hl
      exact hclosed l q hl hq
  unownedEmpty l hl := by
    rw [hline] at hl ⊢
    split at hl
    · rename_i hSl
      rw [LineState.handedOver_owner, Option.map_eq_none_iff, List.head?_eq_none_iff] at hl
      rw [if_pos hSl, LineState.handedOver_waiting, hl]
      rfl
    · rename_i hSl
      rw [if_neg hSl]
      exact h.unownedEmpty l hl
  waiterOpen l w hw := by
    rw [hline] at hw
    split at hw
    · rw [LineState.handedOver_waiting] at hw
      exact hopen _ (h.waiterOpen l w (List.mem_of_mem_tail hw))
    · exact hopen _ (h.waiterOpen l w hw)
  holderOpen q hq := hopen q (h.holderOpen q (hgrant ▸ hq))

/-- Lines of a port that has no job are handed over: no job needs them. -/
theorem JobsInv.handOver {s u : State} (h : JobsInv s) {p : Port} {S : Line → Prop} [DecidablePred S]
    (hS : ∀ l, S l → (s.line l).owner = some p) (hnone : ∀ j, ¬s.engine.Holds p j)
    (hline : ∀ l, u.line l = if S l then (s.line l).handedOver else s.line l)
    (hport : ∀ q, q ≠ p → (s.port q).SameStanding (u.port q)) (hengine : u.engine = s.engine) : JobsInv u := by
  have hne : ∀ q j, s.engine.Holds q j → q ≠ p := fun q j hj hqp => hnone j (hqp ▸ hj)
  refine h.of_jobs_same hengine (fun l q j hj hl => ?_) fun q j hj => hport q (hne q j hj)
  have howner := h.jobLine q j l hj hl
  rw [hline, if_neg fun hSl => hne q j hj (Option.some.inj (howner.symm.trans (hS l hSl)))]

end Sys2Proof.Machine
end

section
/-! The ownership invariant along the six completions, the walker, the tracker's events and every other command. -/

namespace Sys2Proof.Machine

/-! ### The completions -/

theorem Unchosen.insert {s : State} (h : Unchosen s) {p : Port} {f : EntryFields}
    (hnone : ∀ j, ¬s.engine.Holds p j) (howner : (s.line f.line).owner = some p) : Unchosen (s.insert p f) := by
  unfold State.insert
  split
  · exact h.finishLong hnone _ _ _
  · split
    · exact h.finishLong hnone _ _ _
    · rename_i id _
      have hentry : Unchosen (s.setSlot id (some (newEntry p f s.nextSeq))) := h.setSlot id howner
      have hcreated : Unchosen (((s.setSlot id (some (newEntry p f s.nextSeq))).setNextSeq
          (s.nextSeq + 1)).setLastFired (s.lastFired.set id none)) :=
        hentry.of_same { State.SameOwnership.refl _ with }
      exact hcreated.finishLong hnone _ _ _

theorem State.SameOwnership.of_endPulseOf (s : State) (id : EntryId) (e : Entry) :
    s.SameOwnership (s.endPulseOf id e) :=
  .ite (.of_setLine rfl (List.Subset.refl _)) (.refl s)

theorem Unchosen.deleteEntry {s : State} (h : Unchosen s) {p : Port} (hnone : ∀ j, ¬s.engine.Holds p j)
    (id : EntryId) : Unchosen (s.deleteEntry p id) := by
  unfold State.deleteEntry
  split
  · exact h.finishLong hnone _ _ _
  · rename_i e _
    split
    · have hsame := (State.SameOwnership.of_setSlot_none s id).trans (.of_endPulseOf _ id e)
      exact (h.of_same hsame).finishLong (hsame.engine ▸ hnone) _ _ _
    · exact h.finishLong hnone _ _ _

theorem Unchosen.clearLine {s : State} (h : Unchosen s) {p : Port} (hnone : ∀ j, ¬s.engine.Holds p j) (l : Line) :
    Unchosen (s.clearLine p l) := by
  have hremoved := State.SameOwnership.of_removeEntries s fun e => e.isOn p l
  have hsame : s.SameOwnership (if s.pulseIsOf p l then
      (s.removeEntries fun e => e.isOn p l).setLine l ((s.removeEntries fun e => e.isOn p l).line l).endPulse
    else s.removeEntries fun e => e.isOn p l) :=
    .ite (hremoved.trans (.of_setLine rfl (List.Subset.refl _))) hremoved
  exact (h.of_same hsame).finishLong (hsame.engine ▸ hnone) _ _ _

/-- A hand-over leaves every port standing as it did: at most a record arrives. -/
theorem State.handOver_standing (s : State) (l : Line) (q : Port) : (s.port q).SameStanding ((s.handOver l).port q) := by
  rw [State.handOver_port]
  split
  · exact ⟨rfl, rfl, rfl⟩
  · exact .refl _

theorem Unchosen.releaseLine {s : State} (h : Unchosen s) {p : Port} {l : Line} (hnone : ∀ j, ¬s.engine.Holds p j)
    (howner : (s.line l).owner = some p) : Unchosen (s.releaseLine p l) := by
  have hstanding := State.handOver_standing (s.removeEntries fun e => e.isOn p l) l
  have hS : ∀ k, k = l → (s.line k).owner = some p := fun k hk => hk ▸ howner
  have hline : ∀ k, ((s.removeEntries fun e => e.isOn p l).handOver l).line k =
      if k = l then (s.line k).handedOver else s.line k := fun k => by
    rw [State.handOver_eq]
    refine (Bank.get_set _ _ _ _).trans ?_
    by_cases hk : k = l
    · subst hk
      rw [if_pos rfl, if_pos rfl]
      rfl
    · rw [if_neg hk, if_neg (Ne.symm hk)]
      rfl
  have hslot : ∀ i e, ((s.removeEntries fun e => e.isOn p l).handOver l).slot i = some e →
      s.slot i = some e ∧ (e.owner = p → e.fields.line ≠ l) := fun i e he => by
    rw [State.handOver_eq] at he
    obtain ⟨he, hkept⟩ := Option.filter_eq_some_iff.1 ((Bank.get_map _ _ i).symm.trans he)
    exact ⟨he, fun ho hl => by simp [Entry.isOn, ho, hl] at hkept⟩
  have hgrant : ((s.removeEntries fun e => e.isOn p l).handOver l).grant = s.grant := by
    rw [State.handOver_eq]
    rfl
  have hengine : ((s.removeEntries fun e => e.isOn p l).handOver l).engine = s.engine := by
    rw [State.handOver_eq]
    rfl
  have hhanded : Unchosen ((s.removeEntries fun e => e.isOn p l).handOver l) := by
    refine ⟨?_, ?_, ?_⟩
    · exact h.holdings.handOver hS hslot hline (fun q hq => (hstanding q).isOpen.trans hq)
        (fun k q _ hk => (hstanding q).isClosed.trans (h.holdings.lineOwner k q hk)) hgrant
    · exact h.jobs.handOver hS hnone hline (fun q _ => hstanding q) hengine
    · exact h.sweeps.of_same (fun q => by rw [hengine]) (fun q => (hstanding q).isOpen)
        fun q => (hstanding q).isClosed
  exact hhanded.finishLong (hengine ▸ hnone) _ _ _

theorem Unchosen.removeSpent {s : State} (h : Unchosen s) (id : EntryId) (seq : Count32) :
    Unchosen (s.removeSpent id seq) := by
  unfold State.removeSpent
  split
  · split
    · exact h.of_same (.of_setSlot_none s id)
    · exact h
  · exact h

/-- A port's job done, with an effect that keeps what the invariant says between choices. -/
theorem OwnershipInv.completePortJob {s : State} (h : OwnershipInv s) {p : Port} {j : PortJob} {effect : State → State}
    (hripe : s.ripeJob = some (.port p j))
    (heffect : Unchosen s.served → (∀ k, ¬s.served.engine.Holds p k) →
      (∀ l, j.line = some l → (s.line l).owner = some p) → Unchosen (effect s.served)) :
    OwnershipInv (s.completeJob effect) := by
  obtain ⟨v, hv, -, hj⟩ := (State.ripeJob_eq_some _ _).1 hripe
  refine Unchosen.chooseJob (heffect (h.unchosen.served hv fun q => by rw [hj]; nofun)
    (h.unchosen.jobs.no_job_of_served hv hj) fun l hl => h.jobLine p j l (.inr ⟨v, hv, hj⟩) hl)

theorem OwnershipInv.completeSpentRemoval {s : State} (h : OwnershipInv s) {id : EntryId} {seq : Count32}
    (hripe : s.ripeJob = some (.internal (.spentRemoval id seq))) :
    OwnershipInv (s.completeJob fun s => s.removeSpent id seq) := by
  obtain ⟨v, hv, -, hj⟩ := (State.ripeJob_eq_some _ _).1 hripe
  exact Unchosen.chooseJob ((h.unchosen.served hv fun q => by rw [hj]; nofun).removeSpent id seq)

theorem State.granted_standing (s : State) (ls : List Line) (q : Port) : ∀ ps : PortState,
    ps.SameStanding (s.granted ls q ps) := by
  unfold State.granted
  induction ls.filter fun l => decide ((s.line l).waiting.head?.map (·.port) = some q) with
  | nil => exact .refl
  | cons l ls ih =>
    intro ps
    rw [List.foldl_cons]
    have hrest := ih (if ps.isClosed then ps else ps.arrive (s.stamp (.lineGranted l)))
    split at hrest
    · rename_i hclosed
      rw [if_pos hclosed]
      exact hrest
    · rename_i hclosed
      rw [if_neg hclosed]
      exact ⟨hrest.isOpen, hrest.isClosed, hrest.slot⟩

theorem PortState.closing_of_not_open_not_closed {ps : PortState} (ho : ps.isOpen = false) (hc : ps.isClosed = false) :
    ∃ limit cause, ps.session = .closing limit cause := by
  unfold PortState.isOpen at ho
  unfold PortState.isClosed at hc
  cases hs : ps.session with
  | closed => simp [hs] at hc
  | opened => simp [hs] at ho
  | closing limit cause => exact ⟨limit, cause, rfl⟩

/-- The sweep of a CLOSING port that waits for nothing: its entries gone, its lines handed over, the port CLOSED, and
every other port standing as it did. -/
theorem State.sweep_view {s : State} {p : Port} (ho : (s.port p).isOpen = false) (hc : (s.port p).isClosed = false)
    (hwait : ∀ l, ∀ w ∈ (s.line l).waiting, w.port ≠ p) :
    (∀ i e, (s.sweep p).slot i = some e → s.slot i = some e ∧ e.owner ≠ p) ∧
    (∀ l, (s.sweep p).line l = if (s.line l).owner = some p then (s.line l).handedOver else s.line l) ∧
    (∀ q, q ≠ p → (s.port q).SameStanding ((s.sweep p).port q)) ∧
    ((s.sweep p).port p).isOpen = false ∧ ((s.sweep p).port p).isClosed = true ∧ (s.sweep p).grant = s.grant ∧
    (s.sweep p).engine = s.engine := by
  obtain ⟨limit, cause, hclosing⟩ := PortState.closing_of_not_open_not_closed ho hc
  rw [State.sweep, State.finishTeardown_eq (s := s.removeEntries fun e => decide (e.owner = p)) hclosing
    fun l _ => hwait l]
  refine ⟨fun i e he => ?_, fun l => Bank.get_map _ _ l, fun q hq => ?_, ?_, ?_, rfl, rfl⟩
  · obtain ⟨he, hkept⟩ := Option.filter_eq_some_iff.1 ((Bank.get_map _ _ i).symm.trans he)
    exact ⟨he, by simpa using hkept⟩
  · change (s.port q).SameStanding (PerPort.get (PerPort.mapPort _ _) q)
    rw [PerPort.get_mapPort, if_neg hq]
    have hgranted := State.granted_standing (s.removeEntries fun e => decide (e.owner = p))
      ((s.removeEntries fun e => decide (e.owner = p)).ownedLines p) q (s.port q)
    split
    · exact ⟨hgranted.isOpen, hgranted.isClosed, hgranted.slot⟩
    · exact hgranted
  · change PortState.isOpen (PerPort.get (PerPort.mapPort _ _) p) = false
    rw [PerPort.get_mapPort, if_pos rfl]
    rfl
  · change PortState.isClosed (PerPort.get (PerPort.mapPort _ _) p) = true
    rw [PerPort.get_mapPort, if_pos rfl]
    rfl

/-- A sweep done: its port was CLOSING with that one sweep coming, and is CLOSED with nothing left (R121). -/
theorem OwnershipInv.completeSweep {s : State} (h : OwnershipInv s) {p : Port}
    (hripe : s.ripeJob = some (.internal (.sweep p))) : OwnershipInv (s.completeJob fun s => s.sweep p) := by
  obtain ⟨v, hv, -, hj⟩ := (State.ripeJob_eq_some _ _).1 hripe
  obtain ⟨holdings, jobs, sweeps⟩ := h.unchosen
  have hcount := State.served_sweeps hv p
  rw [hj, if_pos rfl, sweeps p] at hcount
  have hnot : (s.port p).isOpen = false ∧ (s.port p).isClosed = false := by
    by_contra hnot
    rw [if_pos (by simpa [Classical.or_iff_not_imp_left] using hnot)] at hcount
    omega
  have hwait : ∀ l, ∀ w ∈ (s.line l).waiting, w.port ≠ p := fun l w hw hwp => by
    rw [← hwp, holdings.waiterOpen l w hw] at hnot
    cases hnot.1
  obtain ⟨hslot, hline, hother, hopen, hclosed, hgrant, hengine⟩ :=
    State.sweep_view (s := s.served) hnot.1 hnot.2 hwait
  have hjob : ∀ j, ¬s.served.engine.Holds p j := by
    rintro j (hj | ⟨w, hw, -⟩)
    · cases hnot.1.symm.trans (jobs.waitingOpen p j hj)
    · cases hw
  have hne : ∀ q, (s.port q).isOpen = true → q ≠ p := fun q hq hqp => by
    rw [hqp, hnot.1] at hq
    cases hq
  have hswept : Unchosen (s.served.sweep p) := by
    refine ⟨?_, ?_, fun q => ?_⟩
    · refine holdings.served.handOver (S := fun l => (s.line l).owner = some p) (fun _ => id)
        (fun i e he => ⟨(hslot i e he).1, fun ho => absurd ho (hslot i e he).2⟩) hline
        (fun q hq => (hother q (hne q hq)).isOpen.trans hq) (fun l q hl hq => ?_) hgrant
      exact (hother q fun hqp => hl (hqp ▸ hq)).isClosed.trans (holdings.lineOwner l q hq)
    · exact jobs.served.handOver (S := fun l => (s.line l).owner = some p) (fun _ => id) hjob hline hother hengine
    · rw [hengine]
      by_cases hqp : q = p
      · subst hqp
        simp only [hnot, Bool.or_self, Bool.false_eq_true, if_false] at hcount
        rw [hopen, hclosed, Bool.false_or, if_pos rfl]
        omega
      · have hjob' : v.job ≠ .internal (.sweep q) := fun hq => hqp (by cases hj.symm.trans hq; rfl)
        rw [(hother q hqp).isOpen, (hother q hqp).isClosed]
        refine Eq.trans ?_ (sweeps q)
        rw [State.served_sweeps hv q, if_neg hjob', Nat.zero_add]
  exact hswept.chooseJob

end Sys2Proof.Machine
end

section
/-! The ownership invariant along the walker and the tracker's events, along every request, and along every step. -/

namespace Sys2Proof.Machine

/-! ### Records posted -/

theorem State.SameOwnership.of_post (s : State) (dest : Port → PortState → Bool) (r : Record) :
    s.SameOwnership (s.post dest r) :=
  { State.SameOwnership.refl s with
    standing := fun p => by
      rw [State.post_port]
      split
      · exact ⟨rfl, rfl, rfl⟩
      · exact .refl _ }

theorem OwnershipInv.post {s : State} (h : OwnershipInv s) (dest : Port → PortState → Bool) (r : Record) :
    OwnershipInv (s.post dest r) :=
  h.of_same (.of_post s dest r)

theorem OwnershipInv.setTracker {s : State} (h : OwnershipInv s) (x : Tracker) : OwnershipInv (s.setTracker x) :=
  { h with }

theorem OwnershipInv.setWalkPos {s : State} (h : OwnershipInv s) (x : WalkPos) : OwnershipInv (s.setWalkPos x) :=
  { h with }

theorem OwnershipInv.setChannel {s : State} (h : OwnershipInv s) (ch : Channel) (c : ChannelState) :
    OwnershipInv (s.setChannel ch c) := by
  cases ch
  · exact { h with }
  · exact { h with }

theorem OwnershipInv.setHold {s : State} (h : OwnershipInv s) (x : HoldInput) : OwnershipInv (s.setHold x) := { h with }

theorem OwnershipInv.freeGrant {s : State} (h : OwnershipInv s) : OwnershipInv (s.setGrant none) :=
  { h with holderOpen := fun _ hp => nomatch hp }

theorem OwnershipInv.advanceTo {s : State} (h : OwnershipInv s) (t : Nat) : OwnershipInv (s.advanceTo t) := { h with }

theorem OwnershipInv.mapLines {s : State} (h : OwnershipInv s) {f : LineState → LineState}
    (hf : ∀ l, (f l).owner = l.owner ∧ (f l).waiting = l.waiting) : OwnershipInv (s.setLines (s.lines.map f)) :=
  h.of_same (.of_mapLines hf)

theorem OwnershipInv.postChange {s : State} (h : OwnershipInv s) (old new : TrackerState) (cause : StateCause) :
    OwnershipInv (s.postChange old new cause) := by
  unfold State.postChange
  split
  · exact h
  · exact h.post _ _

/-! ### The walker -/

theorem Entry.actOn_keeps (e : Entry) (i : EntryId) (cycle : Count32) (now : Nat) (l : LineState) :
    (e.actOn i cycle now l).owner = l.owner ∧ (e.actOn i cycle now l).waiting = l.waiting := by
  unfold Entry.actOn
  split <;> exact ⟨rfl, rfl⟩

/-- A spent removal posted is no sweep and no port's job. -/
theorem Unchosen.postSpentRemoval {s : State} (h : Unchosen s) (i : EntryId) (seq : Count32) :
    OwnershipInv (s.postInternalJob (.spentRemoval i seq)) := by
  obtain ⟨holdings, jobs, sweeps⟩ := h
  refine Unchosen.chooseJob ⟨{ holdings with }, { jobs with }, sweeps.of_same (fun p => ?_) (fun _ => rfl) fun _ => rfl⟩
  simp [Engine.sweeps]

/-- A firing makes its entry SPENT at most, on a line that keeps its owner (R51, R84 to R86). -/
theorem OwnershipInv.fireEntry {s : State} (h : OwnershipInv s) {i : EntryId} {e : Entry} (he : s.slot i = some e)
    (cycle : Count32) (phase : Nat) : OwnershipInv (s.fireEntry i e cycle phase) := by
  obtain ⟨howner, hwaiting⟩ := e.actOn_keeps i cycle s.now (s.line e.fields.line)
  have hline := h.entryLine i e he
  have hfired : OwnershipInv (s.setLastFired (s.lastFired.set i (some cycle))) := { h with }
  refine (State.fireEntry_parts (P := fun u => OwnershipInv u ∧ (u.line e.fields.line).owner = some e.owner) s i e cycle
    phase ⟨hfired.of_same (.of_setLine howner fun _ hw => hwaiting ▸ hw), ?_⟩
    (fun u hu => ⟨hu.1.post _ _, hu.2⟩) fun u _ hu => ?_).1
  · rw [State.setLine_line_self, howner, hline]
  · obtain ⟨hu, howner⟩ := hu
    exact ⟨(hu.unchosen.setSlot i (e := { e with status := .spent }) howner).postSpentRemoval i e.seq, howner⟩

theorem OwnershipInv.reach {s : State} (h : OwnershipInv s) (cycle : Count32) (phase : Nat) (i : EntryId) :
    OwnershipInv (s.reach cycle phase i) :=
  State.reach_parts s cycle phase i h fun _ he _ _ => h.fireEntry he cycle phase

theorem OwnershipInv.takePulseEnds {s : State} (h : OwnershipInv s) (cycle : Count32) (phase : Nat) :
    OwnershipInv (s.takePulseEnds cycle phase) :=
  h.mapLines fun l => by split <;> exact ⟨rfl, rfl⟩

theorem OwnershipInv.advanceWalk {s : State} (h : OwnershipInv s) (cycle : Count32) (hi : Nat) :
    OwnershipInv (s.advanceWalk cycle hi) :=
  State.advanceWalk_ind s cycle hi h
    (fun u _ ph _ _ _ hu => State.takePhase_ind u cycle hi ph (hu.takePulseEnds cycle ph)
      fun _ i _ _ _ _ hv => hv.reach cycle hi i)
    fun _ hu => hu.setWalkPos _

/-! ### Boundaries and the end of tracking -/

theorem LineState.enterRun_keeps (l : LineState) :
    l.enterRun.owner = l.owner ∧ l.enterRun.waiting = l.waiting := by
  rw [LineState.enterRun_eq]
  split <;> exact ⟨rfl, rfl⟩

theorem LineState.withdraw_keeps (l : LineState) :
    l.withdraw.owner = l.owner ∧ l.withdraw.waiting = l.waiting := by
  rw [LineState.withdraw_eq]
  split <;> exact ⟨rfl, rfl⟩

theorem Entry.atBoundary_keeps (period : Nat) (e : Entry) :
    (e.atBoundary period).owner = e.owner ∧ (e.atBoundary period).fields = e.fields := by
  by_cases hs : e.status = .spent
  · rw [Entry.atBoundary_of_spent hs]
    exact ⟨rfl, rfl⟩
  · rw [Entry.atBoundary_of_not_spent hs]
    exact ⟨rfl, rfl⟩

theorem Entry.demote_keeps (e : Entry) : e.demote.owner = e.owner ∧ e.demote.fields = e.fields := by
  unfold Entry.demote
  split <;> exact ⟨rfl, rfl⟩

theorem OwnershipInv.takeBoundary {s : State} (h : OwnershipInv s) (period : Nat) (cycle : Count32) (ph : Nat)
    (slip : Option (Nat × Nat)) : OwnershipInv (s.takeBoundary period cycle ph slip) := by
  have harrivals : s.OnlyArrivals (s.takeBoundary period cycle ph slip) := (State.OnlyArrivals.refl s).then_takeBoundary
  have hline : ∀ l, ((s.takeBoundary period cycle ph slip).line l).owner = (s.line l).owner ∧
      ((s.takeBoundary period cycle ph slip).line l).waiting = (s.line l).waiting := fun l => by
    rw [State.takeBoundary_line]
    split
    · exact LineState.enterRun_keeps _
    · exact ⟨rfl, rfl⟩
  obtain ⟨draws, ports, heq, -⟩ := s.takeBoundary_eq period cycle ph slip
  refine h.of_same
    { entries := fun i e he => ?_
      owner := fun l => (hline l).1
      waiting := fun l _ hw => (hline l).2 ▸ hw
      grant := fun p hp => ?_
      standing := fun p => ?_
      engine := by rw [heq]; rfl }
  · rw [State.takeBoundary_slot] at he
    obtain ⟨e', he', rfl⟩ := Option.map_eq_some_iff.1 he
    obtain ⟨howner, hfields⟩ := e'.atBoundary_keeps period
    exact ⟨e', he', howner.symm, by rw [hfields]⟩
  · rw [heq] at hp
    exact hp
  · obtain ⟨-, hslot, -, hopen, hclosed⟩ := harrivals.keeps p
    exact ⟨hopen, hclosed, hslot⟩

theorem OwnershipInv.trackingEnded {s : State} (h : OwnershipInv s) : OwnershipInv s.trackingEnded :=
  ((h.setWalkPos .none).of_same (.of_mapEntries Entry.demote_keeps)).mapLines LineState.withdraw_keeps

theorem OwnershipInv.loseTracking {s : State} (h : OwnershipInv s) (cause : StateCause) :
    OwnershipInv (s.loseTracking cause) :=
  (h.setTracker _).trackingEnded.post _ _

theorem OwnershipInv.cutPulses {s : State} (h : OwnershipInv s) (cycle : Count32) : OwnershipInv (s.cutPulses cycle) :=
  h.mapLines fun l => by
    split
    · split <;> exact ⟨rfl, rfl⟩
    · exact ⟨rfl, rfl⟩

/-! ### Marks -/

theorem OwnershipInv.stepPosition {s : State} (h : OwnershipInv s) (new : TrackerState) (cause : StateCause) (pos : Nat)
    (slip : Option Nat) : OwnershipInv (s.stepPosition new cause pos slip) := by
  cases slip with
  | none => exact ((h.setTracker _).postChange _ _ _).advanceWalk _ _
  | some k => exact (((h.setTracker _).postChange _ _ _).post _ _).advanceWalk _ _

theorem OwnershipInv.postIf {s : State} (h : OwnershipInv s) (c : Bool) (dest : Port → PortState → Bool) (r : Record) :
    OwnershipInv (if c then s.post dest r else s) := by
  split
  · exact h.post _ _
  · exact h

theorem OwnershipInv.stepBoundary {s : State} (h : OwnershipInv s) (new : TrackerState) (cause : StateCause)
    (missed : Nat) (report : Bool) (align : Option Nat) :
    OwnershipInv (s.stepBoundary new cause missed report align) := by
  cases align with
  | none =>
    exact ((((((h.setTracker _).postChange _ _ _).postIf report _ _).advanceWalk _ _).takeBoundary _ _ _ _).advanceWalk
      _ _)
  | some k =>
    exact ((((((h.setTracker _).postChange _ _ _).postIf report _ _).cutPulses _).takeBoundary _ _ _ _).advanceWalk _ _)

theorem OwnershipInv.stepMark {s : State} (h : OwnershipInv s) (new : TrackerState) (cause : StateCause) :
    OwnershipInv (s.stepMark new cause) := by
  unfold State.stepMark
  split
  · exact h.stepPosition _ _ _ _
  · exact h.stepPosition _ _ _ _
  · exact h.stepBoundary _ _ _ _ _
  · exact h.stepBoundary _ _ _ _ _
  · exact ((h.setTracker _).post _ _).loseTracking _

theorem OwnershipInv.acquireMark {s : State} (h : OwnershipInv s) (n : Nat) : OwnershipInv (s.acquireMark n) := by
  unfold State.acquireMark
  dsimp only
  split
  · exact (((h.setTracker _).setTracker _).setWalkPos _).post _ _
  · exact h.setTracker _

theorem OwnershipInv.judgeMark {s : State} (h : OwnershipInv s) (n : Nat) : OwnershipInv (s.judgeMark n) := by
  unfold State.judgeMark
  split
  · exact h.post _ _
  · exact (h.setTracker _).stepMark _ _

theorem OwnershipInv.takeMark {s : State} (h : OwnershipInv s) (n : Nat) : OwnershipInv (s.takeMark n) := by
  unfold State.takeMark
  split
  · exact h
  · exact h.acquireMark n
  · exact h.judgeMark n
  · exact h.judgeMark n
  · unfold State.reacquireMark
    split
    · exact ((h.setTracker _).post _ _).acquireMark n
    · exact h

theorem OwnershipInv.takeIndex {s : State} (h : OwnershipInv s) : OwnershipInv s.takeIndex := by
  unfold State.takeIndex
  split
  · exact h
  · exact h
  · exact h.setTracker _

theorem OwnershipInv.completeHold {s : State} (h : OwnershipInv s) (ch : Channel) : OwnershipInv (s.completeHold ch) :=
  h.setChannel ch _

theorem OwnershipInv.recognise {s : State} (h : OwnershipInv s) (ch : Channel) : OwnershipInv (s.recognise ch) := by
  unfold State.recognise
  split
  · cases ch
    · exact (h.completeHold .mark).takeMark _
    · exact (h.completeHold .index).takeIndex
  · exact h.completeHold ch

theorem OwnershipInv.substituteMark {s : State} (h : OwnershipInv s) : OwnershipInv s.substituteMark := by
  have hstep := (h.setTracker s.tracker.substitute).stepMark .coasting .coast
  unfold State.substituteMark
  dsimp only
  split
  · exact hstep
  · exact hstep.post _ _

theorem OwnershipInv.stopTracker {s : State} (h : OwnershipInv s) : OwnershipInv s.stopTracker := by
  refine OwnershipInv.post ?_ _ _
  split
  · exact (h.setTracker _).trackingEnded
  · exact h.setTracker _

/-! ### Frames and requests -/

theorem OwnershipInv.setPort {s : State} (h : OwnershipInv s) {p : Port} {x : PortState}
    (hx : (s.port p).SameStanding x) : OwnershipInv (s.setPort p x) :=
  h.of_same (.of_setPort hx)

theorem OwnershipInv.onlyFrame {s : State} (h : OwnershipInv s) (t : Nat) (p : Port) :
    OwnershipInv (s.onlyFrame t p) :=
  (h.advanceTo t).setPort ⟨PortState.afterFrame_isOpen _ _, PortState.afterFrame_isClosed _ _, rfl⟩

theorem OwnershipInv.reply {s : State} (h : OwnershipInv s) (p : Port) (tag : Tag) (st : Status) (body : List Byte) :
    OwnershipInv (s.reply p tag st body) :=
  h.setPort ⟨rfl, rfl, rfl⟩

/-- A frame keeps the invariant if what it asks of an IDLE slot keeps it. -/
theorem OwnershipInv.takeFrame {s : State} (h : OwnershipInv s) (t : Nat) (p : Port) (act : State → State)
    (hact : ∀ v, OwnershipInv v → (v.port p).slot = .idle → OwnershipInv (act v)) :
    OwnershipInv (s.takeFrame t p act) :=
  State.takeFrame_ind s t p act ((h.advanceTo t).setPort ⟨rfl, rfl, rfl⟩) (h.onlyFrame t p) fun htakes =>
    hact _ (h.onlyFrame t p) (by simpa using htakes.idle)

/-- A request keeps the invariant if what it does once admitted, from an IDLE slot, keeps it. -/
theorem OwnershipInv.request {α : Type} {s : State} (h : OwnershipInv s) (t : Nat) (p : Port) (tag rsv : Tag)
    (needs : Needs) (args : Option α) (act : α → State → State)
    (hact : ∀ (a : α) (v : State), OwnershipInv v → (v.port p).slot = .idle →
      (needs.session = true → (v.port p).isOpen = true) → OwnershipInv (act a v)) :
    OwnershipInv (s.takeFrame t p fun v => v.admission p tag rsv needs args act) :=
  h.takeFrame t p _ fun v hv hidle =>
    State.admit_ind v p tag rsv needs args act (fun _ => hv.reply _ _ _ _) fun a _ hopen _ _ => hact a v hv hidle hopen

/-- A claim leaves the line, takes a line that nobody owns, or puts the port at the end of the waiting list (R96). -/
theorem LineState.claim_cases (l : LineState) (p : Port) (a : ClaimArgs) :
    (l.claim p a).1 = l ∨ (l.owner = none ∧ (l.claim p a).1 = l.ownedBy p a.polarity a.safeLevel) ∨
      ∃ q, l.owner = some q ∧
        (l.claim p a).1 =
          { l with waiting := l.waiting ++ [{ port := p, polarity := a.polarity, safeLevel := a.safeLevel }] } := by
  unfold LineState.claim
  split
  · rename_i hnone
    exact .inr (.inl ⟨hnone, rfl⟩)
  · rename_i q hq
    split_ifs
    · exact .inl rfl
    · exact .inl rfl
    · exact .inr (.inr ⟨q, hq, rfl⟩)
    · exact .inl rfl

theorem OwnershipInv.claim {s : State} (h : OwnershipInv s) {p : Port} (hopen : (s.port p).isOpen = true)
    (a : ClaimArgs) : OwnershipInv (s.setLine a.line ((s.line a.line).claim p a).1) := by
  have hwaiting := h.waiterOpen a.line
  obtain heq | ⟨hnone, heq⟩ | ⟨q, hq, heq⟩ := (s.line a.line).claim_cases p a <;> rw [heq]
  · rw [State.setLine_unchanged]
    exact h
  · refine h.setLine (fun q hq => nomatch hnone.symm.trans hq) (fun q hq => ?_) (fun hn => nomatch hn) hwaiting
    cases hq
    exact PortState.not_closed_of_open _ hopen
  · refine h.setLine (fun _ => id) (h.lineOwner a.line) (fun hn => nomatch hq.symm.trans hn) fun w hw => ?_
    obtain hw | hw := List.mem_append.1 hw
    · exact hwaiting w hw
    · rw [List.mem_singleton.1 hw]
      exact hopen

theorem LineState.requestMode_keeps (l : LineState) (run : Bool) :
    (l.requestMode run).1.owner = l.owner ∧ (l.requestMode run).1.waiting = l.waiting := by
  unfold LineState.requestMode
  split <;> simp [LineState.makeSafe_eq]

theorem OwnershipInv.closeSession {s : State} (h : OwnershipInv s) {p : Port} (hopen : (s.port p).isOpen = true)
    (tag : Tag) : OwnershipInv (s.closeSession p tag) := by
  obtain ⟨limit, start, hsession⟩ := (PortState.isOpen_eq_true _).1 hopen
  rw [State.closeSession_eq hsession]
  exact h.beginTeardown hopen rfl rfl

theorem OwnershipInv.silenceTeardown {s : State} (h : OwnershipInv s) {p : Port} (hdue : s.silenceDue p = true) :
    OwnershipInv (s.silenceTeardown p) := by
  obtain ⟨limit, start, hsession, -⟩ := (State.silenceDue_eq_true _ _).1 hdue
  rw [State.silenceTeardown_eq hsession]
  exact h.beginTeardown ((PortState.isOpen_eq_true _).2 ⟨limit, start, hsession⟩) rfl rfl

theorem OwnershipInv.openSession {s : State} (h : OwnershipInv s) {p : Port} (hclosed : (s.port p).isClosed = true)
    (tag : Tag) (limit : Nat) : OwnershipInv (s.openSession p tag limit) :=
  ((h.openPort hclosed (x := { s.port p with
    session := .opened limit s.now, epoch := nextEpoch (s.port p).epoch, mask := EventMask.atOpen, interval := 0 })
    rfl).post _ _).reply _ _ _ _

/-- RELEASE_LINE from its three kinds of ports (R98, R99). -/
theorem OwnershipInv.releaseRequest {s : State} (h : OwnershipInv s) {p : Port} (hidle : (s.port p).slot = .idle)
    (hopen : (s.port p).isOpen = true) (tag : Tag) (l : Line) :
    OwnershipInv
      (if (s.line l).owner = some p then
        ((s.setLine l (s.line l).makeSafe).beginLong p .releaseLine tag).postPortJob p (.releaseDeletion l)
      else if placeOf p (s.line l).waiting ≠ 0 then (s.setLine l ((s.line l).dropWaiter p)).reply p tag .ok []
      else s.reply p tag .notOwner []) := by
  split_ifs with howner
  · have hsafe : OwnershipInv (s.setLine l (s.line l).makeSafe) := by
      rw [LineState.makeSafe_eq]
      exact h.of_same (.of_setLine (LineState.safed_owner _) fun _ hw => by rwa [LineState.safed_waiting] at hw)
    refine hsafe.postPortJob hidle hopen (.releaseDeletion l) (fun k hk => ?_) tag
    cases hk
    rw [State.setLine_line_self, LineState.makeSafe_eq, LineState.safed_owner, howner]
  · refine OwnershipInv.reply (h.of_same (.of_setLine ?_ ?_)) _ _ _ _
    · rfl
    · exact List.filter_subset_self _
  · exact h.reply _ _ _ _

/-! ### Every command -/

/-- The part after a reset, with every transaction through it (R142). -/
theorem State.reset_sameOwnership (t : Nat) (mark index hold : Level) (s : State) :
    State.reset.SameOwnership
      { State.resetAt t mark index hold with
        draws := s.draws
        pending := s.pending
        ports := (State.resetAt t mark index hold).ports.mapPort fun p ps =>
          { ps with transaction := (s.port p).transaction.throughReset } } :=
  { State.SameOwnership.refl State.reset with
    standing := fun p => by
      change (State.reset.port p).SameStanding (PerPort.get (PerPort.mapPort _ _) p)
      rw [PerPort.get_mapPort, State.resetAt_port, State.reset_port]
      exact ⟨rfl, rfl, rfl⟩ }

/-- Every command keeps the ownership invariant. -/
theorem exec_ownershipInv (i : Instr) (s u : State) (hs : OwnershipInv s) (h : exec i s = .next u) : OwnershipInv u := by
  have hnow : ∀ t, OwnershipInv (s.advanceTo t) := hs.advanceTo
  cases i with
  | reset t mark index hold =>
    cases h
    exact OwnershipInv.reset.of_same (State.reset_sameOwnership (max s.now t) mark index hold s)
  | transactionStart t p =>
    cases h
    split
    · exact (hnow t).setPort ⟨rfl, rfl, rfl⟩
    · exact hnow t
  | frameError t p bytes =>
    cases h
    split
    · exact (hnow t).setPort ⟨rfl, rfl, rfl⟩
    · refine OwnershipInv.reply ?_ _ _ _ _
      exact (hnow t).setPort ⟨rfl, rfl, rfl⟩
    · exact (hnow t).setPort ⟨rfl, rfl, rfl⟩
  | nop t p =>
    cases h
    exact hs.takeFrame t p id fun _ hv _ => hv
  | unknownRequestCode t p tag rsv code body =>
    cases h
    exact hs.takeFrame t p _ fun _ hv _ => hv.reply _ _ _ _
  | openSession t p tag rsv body =>
    cases h
    refine hs.request t p _ _ _ _ _ fun limit v hv _ _ => ?_
    split
    · exact hv.openSession ‹_› tag limit
    · exact hv.reply _ _ _ _
  | closeSession t p tag rsv body =>
    cases h
    exact hs.request t p _ _ _ _ _ fun _ v hv _ hopen => hv.closeSession (hopen rfl) tag
  | requestGrant t p tag rsv body =>
    cases h
    refine hs.request t p _ _ _ _ _ fun _ v hv _ hopen => ?_
    split
    · exact (hv.setGrant (hopen rfl)).reply _ _ _ _
    · exact hv.reply _ _ _ _
  | releaseGrant t p tag rsv body =>
    cases h
    refine hs.request t p _ _ _ _ _ fun _ v hv _ _ => ?_
    split
    · exact hv.freeGrant.reply _ _ _ _
    · exact hv.reply _ _ _ _
  | setQuota t p tag rsv body =>
    cases h
    refine hs.request t p _ _ _ _ _ fun a v hv _ _ => OwnershipInv.reply ?_ _ _ _ _
    exact hv.setPort ⟨rfl, rfl, rfl⟩
  | setTracker t p tag rsv body =>
    cases h
    exact hs.request t p _ _ _ _ _ fun c v hv _ _ =>
      (((hv.setTracker _).setChannel .mark _).setChannel .index _).reply _ _ _ _
  | startTracker t p tag rsv body =>
    cases h
    exact hs.request t p _ _ _ _ _ fun _ v hv _ _ => ((hv.setTracker _).post _ _).reply _ _ _ _
  | stopTracker t p tag rsv body =>
    cases h
    refine hs.request t p _ _ _ _ _ fun _ v hv _ _ => OwnershipInv.reply ?_ _ _ _ _
    split
    · exact hv
    · exact hv.stopTracker
  | claimLine t p tag rsv body =>
    cases h
    exact hs.request t p _ _ _ _ _ fun a v hv _ hopen => (hv.claim (hopen rfl) a).reply _ _ _ _
  | releaseLine t p tag rsv body =>
    cases h
    exact hs.request t p _ _ _ _ _ fun l v hv hidle hopen => hv.releaseRequest hidle (hopen rfl) tag l
  | setLineMode t p tag rsv body =>
    cases h
    refine hs.request t p _ _ _ _ _ fun a v hv _ _ => ?_
    split
    · obtain ⟨howner, hwaiting⟩ := (v.line a.1).requestMode_keeps a.2
      exact (hv.of_same (.of_setLine howner fun _ hw => hwaiting ▸ hw)).reply _ _ _ _
    · exact hv.reply _ _ _ _
  | insertEntry t p tag rsv body =>
    cases h
    refine hs.request t p _ _ _ _ _ fun f v hv hidle hopen => ?_
    split
    · rename_i howner
      exact hv.postPortJob hidle (hopen rfl) (.insertion f) (fun l hl => Option.some.inj hl ▸ howner) tag
    · exact hv.reply _ _ _ _
  | deleteEntry t p tag rsv body =>
    cases h
    exact hs.request t p _ _ _ _ _ fun id v hv hidle hopen =>
      hv.postPortJob hidle (hopen rfl) (.entryDeletion id) (fun _ => nofun) tag
  | clearLineEntries t p tag rsv body =>
    cases h
    refine hs.request t p _ _ _ _ _ fun l v hv hidle hopen => ?_
    split
    · rename_i howner
      exact hv.postPortJob hidle (hopen rfl) (.lineClear l) (fun k hk => Option.some.inj hk ▸ howner) tag
    · exact hv.reply _ _ _ _
  | readEntry t p tag rsv body =>
    cases h
    refine hs.request t p _ _ _ _ _ fun _ v hv _ _ => ?_
    split
    · exact hv.reply _ _ _ _
    · split
      · exact hv.reply _ _ _ _
      · exact hv.reply _ _ _ _
  | readSession t p tag rsv body | readTracker t p tag rsv body | readHistory t p tag rsv body
  | readLines t p tag rsv body | listEntries t p tag rsv body =>
    cases h
    exact hs.request t p _ _ _ _ _ fun _ v hv _ _ => hv.reply _ _ _ _
  | readEvents t p tag rsv body | setEventMask t p tag rsv body | setAttention t p tag rsv body =>
    cases h
    refine hs.request t p _ _ _ _ _ fun _ v hv _ _ => OwnershipInv.reply ?_ _ _ _ _
    exact hv.setPort ⟨rfl, rfl, rfl⟩
  | ackAttention t p tag rsv body =>
    cases h
    exact hs.request t p _ _ _ _ _ fun _ v hv _ _ => (hv.reply _ _ _ _).setPort ⟨rfl, rfl, rfl⟩
  | mark t =>
    cases h
    split
    · exact ((hnow t).completeHold .mark).takeMark _
    · exact hnow t
  | indexEdge t =>
    cases h
    split
    · exact ((hnow t).completeHold .index).takeIndex
    · exact hnow t
  | unselectedTransition t ch =>
    cases h
    split
    · split
      · exact hnow t
      · exact (hnow t).completeHold ch
    · exact hnow t
  | conditionerHoldBegins t ch sample =>
    cases h
    split
    · exact (hnow t).recognise ch
    · exact (hnow t).setChannel ch _
  | conditionerHoldAbandoned t ch =>
    cases h
    exact (hnow t).setChannel ch _
  | noMarkLimit t =>
    cases h
    split
    · exact (hnow t).setTracker _
    · exact hnow t
  | lateTimeout t =>
    cases h
    split
    · split
      · exact (hnow t).substituteMark
      · exact (hnow t).loseTracking _
    · exact hnow t
  | phaseRise t =>
    cases h
    split
    · exact ((hnow t).setTracker _).advanceWalk _ _
    · exact hnow t
  | pulseTimerExpiry t l =>
    cases h
    split
    · exact (hnow t).of_same (.of_setLine rfl (List.Subset.refl _))
    · exact hnow t
  | holdAssertion t =>
    cases h
    split
    · exact (((hnow t).setHold _).mapLines LineState.withdraw_keeps).post _ _
    · exact (hnow t).setHold _
  | holdDeassertion t =>
    cases h
    split
    · exact ((hnow t).setHold _).post _ _
    · exact (hnow t).setHold _
  | silenceExpiry t p =>
    cases h
    split
    · exact (hnow t).silenceTeardown ‹_›
    · exact hnow t
  | insertionCompletes t =>
    cases h
    split
    · rename_i p f hripe
      exact (hnow t).completePortJob hripe fun hu hnone hline => hu.insert hnone (hline f.line rfl)
    · exact hnow t
  | entryDeletionCompletes t =>
    cases h
    split
    · rename_i p id hripe
      exact (hnow t).completePortJob hripe fun hu hnone _ => hu.deleteEntry hnone id
    · exact hnow t
  | lineClearCompletes t =>
    cases h
    split
    · rename_i p l hripe
      exact (hnow t).completePortJob hripe fun hu hnone _ => hu.clearLine hnone l
    · exact hnow t
  | releaseDeletionCompletes t =>
    cases h
    split
    · rename_i p l hripe
      exact (hnow t).completePortJob hripe fun hu hnone hline => hu.releaseLine hnone (hline l rfl)
    · exact hnow t
  | teardownSweepCompletes t =>
    cases h
    split
    · exact (hnow t).completeSweep ‹_›
    · exact hnow t
  | spentRemovalCompletes t =>
    cases h
    split
    · exact (hnow t).completeSpentRemoval ‹_›
    · exact hnow t

/-- Settles O60: every command keeps the invariant, and an idle tick changes nothing that it speaks of. -/
theorem everyStepKeepsTheOwnershipInvariant : Obligations.EveryStepKeepsTheOwnershipInvariant := by
  intro s u hs hstep
  unfold step at hstep
  split at hstep
  case h_1 c rest _ => exact exec_ownershipInv c (s.setPending rest) u { hs with } hstep
  case h_2 =>
    cases hstep
    exact { hs with }

end Sys2Proof.Machine
end

section
/-! The pulse timers and the samples of HOLD, each as one equation on the next state. -/

namespace Sys2Proof.Machine

/-- The sample of a change to low puts the RUN lines in READY and is told (R106). -/
theorem exec_holdAssertion_of_change {t : Nat} {s : State} (hpin : (s.advanceTo t).hold.pin = .high)
    (hawaiting : (s.advanceTo t).hold.awaiting = none) (hsampled : s.hold.sampled ≠ some (max s.now t)) :
    exec (.holdAssertion t) s = .next
      ((((s.advanceTo t).setHold { pin := .low, awaiting := none, sampled := some (max s.now t) }).setLines
        (s.lines.map LineState.withdraw)).postHold true) := by
  have hsample := HoldInput.sample_change (s.advanceTo t).hold .low (max s.now t)
    (by rwa [State.advanceTo_hold_sampled]) hawaiting (by rw [hpin]; decide)
  simp only [exec, execHoldAssertion, State.advanceTo_now, hsample, State.advanceTo_lines]

/-- The sample of a change to high is told, and no more (R107). -/
theorem exec_holdDeassertion_of_change {t : Nat} {s : State} (hpin : (s.advanceTo t).hold.pin = .low)
    (hawaiting : (s.advanceTo t).hold.awaiting = none) (hsampled : s.hold.sampled ≠ some (max s.now t)) :
    exec (.holdDeassertion t) s = .next
      (((s.advanceTo t).setHold { pin := .high, awaiting := none, sampled := some (max s.now t) }).postHold false) := by
  have hsample := HoldInput.sample_change (s.advanceTo t).hold .high (max s.now t)
    (by rwa [State.advanceTo_hold_sampled]) hawaiting (by rw [hpin]; decide)
  simp only [exec, execHoldDeassertion, State.advanceTo_now, hsample]

/-- The first sample after a reset only sets the HOLD input (R105). -/
theorem exec_holdAssertion_of_first {t : Nat} {s : State} (hawaiting : (s.advanceTo t).hold.awaiting ≠ none)
    (hsampled : s.hold.sampled ≠ some (max s.now t)) :
    exec (.holdAssertion t) s = .next
      ((s.advanceTo t).setHold { pin := .low, awaiting := none, sampled := some (max s.now t) }) := by
  have hsample := HoldInput.sample_first (s.advanceTo t).hold .low (max s.now t)
    (by rwa [State.advanceTo_hold_sampled]) hawaiting
  simp only [exec, execHoldAssertion, State.advanceTo_now, hsample]

theorem exec_holdDeassertion_of_first {t : Nat} {s : State} (hawaiting : (s.advanceTo t).hold.awaiting ≠ none)
    (hsampled : s.hold.sampled ≠ some (max s.now t)) :
    exec (.holdDeassertion t) s = .next
      ((s.advanceTo t).setHold { pin := .high, awaiting := none, sampled := some (max s.now t) }) := by
  have hsample := HoldInput.sample_first (s.advanceTo t).hold .high (max s.now t)
    (by rwa [State.advanceTo_hold_sampled]) hawaiting
  simp only [exec, execHoldDeassertion, State.advanceTo_now, hsample]

/-- A HOLD record arrives at every OPEN session (R106, R107). -/
theorem State.postHold_eq (s : State) (on : Bool) :
    s.postHold on =
      { s with ports := s.ports.mapPort fun _ ps => if ps.isOpen then ps.arrive (s.stamp (.hold on)) else ps } := by
  rw [State.postHold, State.post_eq]
  simp only [toOpen, Bool.and_true]
  rfl

/-- Settles O46. -/
theorem pulseTimersAndHoldQuietTheLines : Obligations.PulseTimersAndHoldQuietTheLines := by
  intro t s
  refine ⟨fun l expires id seq hpulse hexpires => ?_, fun hpin hawaiting hsampled => ?_,
    fun hpin hawaiting hsampled => ?_, fun hawaiting hsampled =>
      ⟨exec_holdAssertion_of_first hawaiting hsampled, exec_holdDeassertion_of_first hawaiting hsampled⟩⟩
  · have hdue : (s.line l).timerDue (max s.now t) = true :=
      (LineState.timerDue_eq_true _ _).2 ⟨id, seq, expires, hpulse, hexpires⟩
    exact congrArg Host.Outcome.next (if_pos hdue)
  · rw [exec_holdAssertion_of_change hpin hawaiting hsampled, State.postHold_eq, funext LineState.withdraw_eq]
    rfl
  · rw [exec_holdDeassertion_of_change hpin hawaiting hsampled, State.postHold_eq]
    rfl

end Sys2Proof.Machine
end

section
/-! What the walker takes and what it leaves: one phase and one advance as a recursion on what is due, the entries that
fire, the pulse ends that are taken, and the frame of an advance. -/

namespace Sys2Proof.Machine

/-! ### One phase -/

/-- The pulse ends of a phase, line by line (R89). -/
theorem State.takePulseEnds_eq (s : State) (cycle : Count32) (ph : Nat) :
    s.takePulseEnds cycle ph =
      { s with
        lines := s.lines.map fun l =>
          match l.pulse with
          | .phaseEnd _ _ endPhase c =>
            if endPhase = ph ∧ c = cycle then { l with active := false, pulse := .none } else l
          | _ => l } := by
  have hline : ∀ l : LineState,
      (if l.endIn cycle = some ph then l.endPulse else l) =
      match l.pulse with
      | .phaseEnd _ _ endPhase c =>
        if endPhase = ph ∧ c = cycle then { l with active := false, pulse := .none } else l
      | _ => l := by
    intro l
    cases hp : l.pulse with
    | phaseEnd id seq endPhase c => by_cases hc : c = cycle <;> simp [LineState.endIn, hp, hc, LineState.endPulse]
    | none => simp [LineState.endIn, hp]
    | timeEnd => simp [LineState.endIn, hp]
  exact congrArg (fun f => { s with lines := s.lines.map f }) (funext hline)

theorem State.takePulseEnds_line (s : State) (cycle : Count32) (ph : Nat) (l : Line) :
    (s.takePulseEnds cycle ph).line l =
      if (s.line l).endIn cycle = some ph then (s.line l).endPulse else s.line l :=
  Bank.get_map _ _ _

/-- One phase is its pulse ends and then its entries, reached in walk order (R72). -/
theorem State.takePhase_eq (s : State) (cycle : Count32) (last ph : Nat) :
    s.takePhase cycle last ph =
      (s.firingsAt ph).foldl (fun u i => u.reach cycle last i) (s.takePulseEnds cycle ph) := rfl

/-! ### The walk position during a walk

The walker reads its position only where an advance begins, so the rest of an advance is an advance. -/

theorem State.reach_setWalkPos (s : State) (w : WalkPos) (cycle : Count32) (last : Nat) (i : EntryId) :
    (s.setWalkPos w).reach cycle last i = (s.reach cycle last i).setWalkPos w := by
  unfold State.reach
  simp only [State.setWalkPos_slot]
  split
  · rename_i e _
    have hfires : (s.setWalkPos w).fires i e cycle = s.fires i e cycle := rfl
    rw [hfires]
    split
    · simp only [State.fireEntry_eq]
      rfl
    · rfl
  · rfl

theorem State.takePhase_setWalkPos (s : State) (w : WalkPos) (cycle : Count32) (last ph : Nat) :
    (s.setWalkPos w).takePhase cycle last ph = (s.takePhase cycle last ph).setWalkPos w := by
  have hfold : ∀ (ids : List EntryId) (u : State),
      ids.foldl (fun v i => v.reach cycle last i) (u.setWalkPos w) =
        (ids.foldl (fun v i => v.reach cycle last i) u).setWalkPos w := by
    intro ids
    induction ids with
    | nil => exact fun _ => rfl
    | cons i ids ih =>
      intro u
      simp only [List.foldl_cons, State.reach_setWalkPos, ih]
  exact hfold (s.firingsAt ph) (s.takePulseEnds cycle ph)

/-! ### A walk as a recursion on what is due -/

/-- Where nothing is due a walk changes nothing. -/
theorem State.walk_of_nothing_due {s : State} {cycle : Count32} {hi lo : Nat} (h : s.nextDue cycle lo hi = none)
    (fuel : Nat) : State.walk cycle hi fuel lo s = s := by
  cases fuel with
  | zero => rfl
  | succ fuel => simp only [State.walk, h]

/-- A walk takes the next phase at which something is due and goes on above it. -/
theorem State.walk_of_next_due {s : State} {cycle : Count32} {hi lo ph : Nat} (h : s.nextDue cycle lo hi = some ph)
    (fuel : Nat) :
    State.walk cycle hi (fuel + 1) lo s = State.walk cycle hi fuel (ph + 1) (s.takePhase cycle hi ph) := by
  simp only [State.walk, h]

theorem State.nextDue_of_empty_range (s : State) (cycle : Count32) {lo hi : Nat} (h : hi < lo) :
    s.nextDue cycle lo hi = none :=
  (State.nextDue_eq_none _ _ _ _).2 fun _ _ _ => by omega

/-- Fuel beyond the number of phases in the range makes no difference. -/
theorem State.walk_fuel (cycle : Count32) (hi : Nat) :
    ∀ (fuel fuel' lo : Nat) (s : State), hi < lo + fuel → hi < lo + fuel' →
      State.walk cycle hi fuel lo s = State.walk cycle hi fuel' lo s := by
  intro fuel
  induction fuel with
  | zero =>
    intro fuel' lo s hempty _
    exact (State.walk_of_nothing_due (s.nextDue_of_empty_range cycle hempty) fuel').symm
  | succ fuel ih =>
    intro fuel' lo s hfuel hfuel'
    cases hdue : s.nextDue cycle lo hi with
    | none => rw [State.walk_of_nothing_due hdue, State.walk_of_nothing_due hdue]
    | some ph =>
      obtain ⟨hlo, hhi⟩ := State.nextDue_range _ _ _ _ _ hdue
      obtain ⟨n, rfl⟩ : ∃ n, fuel' = n + 1 := ⟨fuel' - 1, by omega⟩
      rw [State.walk_of_next_due hdue, State.walk_of_next_due hdue]
      exact ih _ _ _ (by omega) (by omega)

theorem State.walk_setWalkPos (w : WalkPos) (cycle : Count32) (hi : Nat) :
    ∀ (fuel lo : Nat) (s : State),
      State.walk cycle hi fuel lo (s.setWalkPos w) = (State.walk cycle hi fuel lo s).setWalkPos w := by
  intro fuel
  induction fuel with
  | zero => exact fun _ _ => rfl
  | succ fuel ih =>
    intro lo s
    have hsame : (s.setWalkPos w).nextDue cycle lo hi = s.nextDue cycle lo hi := rfl
    cases hdue : s.nextDue cycle lo hi with
    | none => rw [State.walk_of_nothing_due hdue, State.walk_of_nothing_due (hsame.trans hdue)]
    | some ph =>
      rw [State.walk_of_next_due hdue, State.walk_of_next_due (hsame.trans hdue), State.takePhase_setWalkPos, ih]

/-! ### An advance as a recursion on what is due (R71) -/

section
variable {s : State} {cycle : Count32} {hi lo : Nat}

/-- An advance is a walk of any fuel that covers its range, and the walk position at its end. -/
theorem State.advanceWalk_eq_walk (hlo : s.walkPos.next = some lo) {fuel : Nat} (hfuel : hi < lo + fuel) :
    s.advanceWalk cycle hi = (State.walk cycle hi fuel lo s).setWalkPos (.reached hi) := by
  simp only [State.advanceWalk, hlo, State.walk_fuel cycle hi (hi + 1 - lo) fuel lo s (by omega) hfuel]

theorem State.advanceWalk_of_nothing_due (hlo : s.walkPos.next = some lo) (h : s.nextDue cycle lo hi = none) :
    s.advanceWalk cycle hi = s.setWalkPos (.reached hi) := by
  simp only [State.advanceWalk, hlo, State.walk_of_nothing_due h]

theorem State.advanceWalk_of_next_due (hlo : s.walkPos.next = some lo) {ph : Nat}
    (h : s.nextDue cycle lo hi = some ph) :
    s.advanceWalk cycle hi = ((s.takePhase cycle hi ph).setWalkPos (.reached ph)).advanceWalk cycle hi := by
  obtain ⟨hle, _⟩ := State.nextDue_range _ _ _ _ _ h
  have hrest : ((s.takePhase cycle hi ph).setWalkPos (.reached ph)).walkPos.next = some (ph + 1) := rfl
  rw [State.advanceWalk_eq_walk hlo (fuel := hi + 1) (by omega), State.walk_of_next_due h,
    State.advanceWalk_eq_walk hrest (fuel := hi) (by omega), State.walk_setWalkPos]
  rfl

end

/-! ### The slots and lines along an advance

What a slot or a line can become while the walker works, as relations that each of its steps keeps. -/

/-- A slot that is left as it was, or whose ACTIVE ONCE entry has become SPENT. -/
def SlotWalked (o o' : Option Entry) : Prop :=
  o' = o ∨ ∃ e, o = some e ∧ e.status = .active ∧ e.fields.filter = .once ∧ o' = some { e with status := .spent }

theorem SlotWalked.trans {o o' o'' : Option Entry} (h : SlotWalked o o') (h' : SlotWalked o' o'') :
    SlotWalked o o'' := by
  obtain rfl | ⟨e, he, ha, ho, rfl⟩ := h
  · exact h'
  · obtain rfl | ⟨e', he', ha', _⟩ := h'
    · exact .inr ⟨e, he, ha, ho, rfl⟩
    · cases he'
      cases ha'

/-- An entry found in a walked slot was there before, the same but for its status. -/
theorem SlotWalked.entry {o : Option Entry} {e' : Entry} (h : SlotWalked o (some e')) :
    ∃ e, o = some e ∧ e'.fields = e.fields ∧ e'.effective = e.effective := by
  obtain rfl | ⟨e, he, _, _, he'⟩ := h
  · exact ⟨e', rfl, rfl, rfl⟩
  · cases he'
    exact ⟨e, he, rfl, rfl⟩

/-- A line that keeps its mode, owner and waiters, and outside RUN, with no pulse pending, everything (R78, R89). -/
structure LineState.Walked (l l' : LineState) : Prop where
  mode : l'.mode = l.mode
  owner : l'.owner = l.owner
  waiting : l'.waiting = l.waiting
  quiet : l.mode ≠ .run → l.pulse = .none → l' = l

theorem LineState.Walked.refl (l : LineState) : l.Walked l := ⟨rfl, rfl, rfl, fun _ _ => rfl⟩

theorem LineState.Walked.trans {l l' l'' : LineState} (h : l.Walked l') (h' : l'.Walked l'') : l.Walked l'' where
  mode := h'.mode.trans h.mode
  owner := h'.owner.trans h.owner
  waiting := h'.waiting.trans h.waiting
  quiet hm hp := by
    obtain rfl := h.quiet hm hp
    exact h'.quiet hm hp

theorem State.takePulseEnds_walked (s : State) (cycle : Count32) (ph : Nat) (l : Line) :
    (s.line l).Walked ((s.takePulseEnds cycle ph).line l) := by
  rw [State.takePulseEnds_line]
  split
  · rename_i hend
    exact ⟨rfl, rfl, rfl, fun _ hp => by simp [LineState.endIn, hp] at hend⟩
  · exact .refl _

theorem State.reach_line_walked (s : State) (cycle : Count32) (last : Nat) (i : EntryId) (l : Line) :
    (s.line l).Walked ((s.reach cycle last i).line l) := by
  obtain h | ⟨e, _, _, hrun, h⟩ := s.reach_line cycle last i l
  · rw [h]
    exact .refl _
  · rw [h, Entry.actOn_eq]
    exact ⟨rfl, rfl, rfl, fun hm => absurd hrun hm⟩

theorem State.reach_slot_walked (s : State) (cycle : Count32) (last : Nat) (i j : EntryId) :
    SlotWalked (s.slot j) ((s.reach cycle last i).slot j) := by
  obtain h | ⟨e, rfl, he, ha, ho, h⟩ := s.reach_slot cycle last i j
  · exact .inl h
  · exact .inr ⟨e, he, ha, ho, h⟩

theorem State.takePhase_slot_walked (s : State) (cycle : Count32) (last ph : Nat) (i : EntryId) :
    SlotWalked (s.slot i) ((s.takePhase cycle last ph).slot i) :=
  State.takePhase_ind (P := fun u => SlotWalked (s.slot i) (u.slot i)) s cycle last ph (.inl rfl)
    fun u j _ _ _ _ hu => hu.trans (u.reach_slot_walked cycle last j i)

theorem State.advanceWalk_slot_walked (s : State) (cycle : Count32) (hi : Nat) (i : EntryId) :
    SlotWalked (s.slot i) ((s.advanceWalk cycle hi).slot i) :=
  State.advanceWalk_ind (P := fun u => SlotWalked (s.slot i) (u.slot i)) s cycle hi (.inl rfl)
    (fun u _ ph _ _ _ hu => hu.trans (u.takePhase_slot_walked cycle hi ph i)) fun _ hu => hu

theorem State.advanceWalk_line_walked (s : State) (cycle : Count32) (hi : Nat) (l : Line) :
    (s.line l).Walked ((s.advanceWalk cycle hi).line l) :=
  State.advanceWalk_ind (P := fun u => (s.line l).Walked (u.line l)) s cycle hi (.refl _)
    (fun u _ ph _ _ _ hu => State.takePhase_ind (P := fun v => (s.line l).Walked (v.line l)) u cycle hi ph
      (hu.trans (u.takePulseEnds_walked cycle ph l))
      fun v i _ _ _ _ hv => hv.trans (v.reach_line_walked cycle hi i l))
    fun _ hu => hu

/-- A slot with no ACTIVE entry in the range keeps its entry and its last-fired record. -/
theorem State.advanceWalk_outside_range {s : State} {lo : Nat} (hlo : s.walkPos.next = some lo) (cycle : Count32)
    (hi : Nat) (i : EntryId)
    (hout : ∀ e, s.slot i = some e → e.status = .active → e.effective < lo ∨ hi < e.effective) :
    (s.advanceWalk cycle hi).slot i = s.slot i ∧
      (s.advanceWalk cycle hi).lastFired.get i = s.lastFired.get i := by
  refine State.advanceWalk_ind (P := fun u => u.slot i = s.slot i ∧ u.lastFired.get i = s.lastFired.get i) s cycle hi
    ⟨rfl, rfl⟩ (fun u lo' ph hlo' hle hhi hu => ?_) fun _ hu => hu
  cases hlo.symm.trans hlo'
  refine State.takePhase_ind (P := fun v => v.slot i = s.slot i ∧ v.lastFired.get i = s.lastFired.get i) u cycle hi ph
    hu fun v j e he ha hph hv => ?_
  have hne : i ≠ j := by
    rintro rfl
    have := hout e (hu.1.symm.trans he) ha
    omega
  obtain hslot | ⟨_, hij, _⟩ := v.reach_slot cycle hi j i
  · exact ⟨hslot.trans hv.1, (v.reach_lastFired cycle hi j i hne).trans hv.2⟩
  · exact absurd hij hne

/-! ### The entries that fire -/

/-- An entry that has fired in this cycle, or stands where it was and fires when reached. -/
def State.FiredOrFires (s : State) (i : EntryId) (e : Entry) (cycle : Count32) : Prop :=
  s.lastFired.get i = some cycle ∨ s.slot i = some e ∧ s.Fires i e cycle

/-- A firing sets no last-fired record to another cycle than the walk's. -/
theorem State.reach_keeps_fired {s : State} {cycle : Count32} {i : EntryId} (last : Nat) (j : EntryId)
    (h : s.lastFired.get i = some cycle) : (s.reach cycle last j).lastFired.get i = some cycle :=
  State.reach_parts (P := fun v => v.lastFired.get i = some cycle) s cycle last j h fun e _ _ _ =>
    State.fireEntry_parts (P := fun v => v.lastFired.get i = some cycle) s j e cycle last
      (by
        rw [State.setLine_lastFired, State.setLastFired_lastFired, Bank.get_set]
        split
        · rfl
        · exact h)
      (fun _ hv => hv) fun _ _ hv => hv

theorem State.takePhase_keeps_fired {s : State} {cycle : Count32} {i : EntryId} (last ph : Nat)
    (h : s.lastFired.get i = some cycle) : (s.takePhase cycle last ph).lastFired.get i = some cycle :=
  State.takePhase_ind (P := fun u => u.lastFired.get i = some cycle) s cycle last ph h
    fun _ j _ _ _ _ hu => State.reach_keeps_fired last j hu

theorem State.walk_keeps_fired {s : State} {cycle : Count32} {i : EntryId} (hi fuel lo : Nat)
    (h : s.lastFired.get i = some cycle) : (State.walk cycle hi fuel lo s).lastFired.get i = some cycle :=
  State.walk_ind (P := fun u => u.lastFired.get i = some cycle) cycle hi lo
    (fun _ ph _ _ hu => State.takePhase_keeps_fired hi ph hu) fuel lo s le_rfl h

section
variable {s : State} {i : EntryId} {e : Entry} {cycle : Count32}

/-- Once reached, the entry has fired in this cycle. -/
theorem State.FiredOrFires.reach_self (h : s.FiredOrFires i e cycle) (last : Nat) :
    (s.reach cycle last i).lastFired.get i = some cycle := by
  obtain hfired | ⟨he, hfires⟩ := h
  · exact State.reach_keeps_fired last i hfired
  · simp only [State.reach, he, (State.fires_eq_true s i e cycle).2 hfires, if_true, State.fireEntry_eq,
      Bank.get_set_self]

/-- Another entry's firing does not stop it: it keeps its slot, its line's mode and its last-fired record. -/
theorem State.FiredOrFires.reach (h : s.FiredOrFires i e cycle) (last : Nat) (j : EntryId) :
    (s.reach cycle last j).FiredOrFires i e cycle := by
  by_cases hij : i = j
  · subst hij
    exact .inl (h.reach_self last)
  · obtain hfired | ⟨he, hactive, hrun, hnot, hfilter⟩ := h
    · exact .inl (State.reach_keeps_fired last j hfired)
    · obtain hslot | ⟨_, h', _⟩ := s.reach_slot cycle last j i
      · refine .inr ⟨hslot.trans he, hactive, ?_, ?_, hfilter⟩
        · rw [(s.reach_line_walked cycle last j _).mode, hrun]
        · rwa [s.reach_lastFired cycle last j i hij]
      · exact absurd h' hij

theorem State.FiredOrFires.takePulseEnds (h : s.FiredOrFires i e cycle) (ph : Nat) :
    (s.takePulseEnds cycle ph).FiredOrFires i e cycle := by
  obtain hfired | ⟨he, hactive, hrun, hnot, hfilter⟩ := h
  · exact .inl hfired
  · exact .inr ⟨he, hactive, by rw [(s.takePulseEnds_walked cycle ph _).mode, hrun], hnot, hfilter⟩

theorem State.FiredOrFires.takePhase (h : s.FiredOrFires i e cycle) (last ph : Nat) :
    (s.takePhase cycle last ph).FiredOrFires i e cycle :=
  State.takePhase_ind (P := fun u => u.FiredOrFires i e cycle) s cycle last ph (h.takePulseEnds ph)
    fun _ j _ _ _ _ hu => hu.reach last j

/-- Among the entries reached one after another it fires. -/
theorem State.FiredOrFires.foldl_reach (last : Nat) (ids : List EntryId) :
    ∀ s : State, s.FiredOrFires i e cycle → i ∈ ids →
      (ids.foldl (fun u j => u.reach cycle last j) s).lastFired.get i = some cycle := by
  induction ids with
  | nil => exact fun _ _ hmem => absurd hmem List.not_mem_nil
  | cons j ids ih =>
    intro s h hmem
    obtain rfl | hmem := List.mem_cons.1 hmem
    · exact List.foldlRecOn (motive := fun u : State => u.lastFired.get i = some cycle) ids _
        (h.reach_self last) fun _ hu k _ => State.reach_keeps_fired last k hu
    · exact ih _ (h.reach last j) hmem

/-- The phase of the entry fires it. -/
theorem State.FiredOrFires.takePhase_self (h : s.FiredOrFires i e cycle) (he : s.slot i = some e)
    (hactive : e.status = .active) (last : Nat) :
    (s.takePhase cycle last e.effective).lastFired.get i = some cycle :=
  State.FiredOrFires.foldl_reach last _ _ (h.takePulseEnds e.effective)
    ((State.mem_firingsAt _ _ _).2 ⟨e, he, hactive, rfl⟩)

/-- A walk that covers the phase of an entry fires it: no phase with something due lies between. -/
theorem State.FiredOrFires.walk {hi : Nat} (hhi : e.effective ≤ hi) :
    ∀ (fuel lo : Nat) (s : State), s.FiredOrFires i e cycle → lo ≤ e.effective → e.effective < lo + fuel →
      (State.walk cycle hi fuel lo s).lastFired.get i = some cycle := by
  intro fuel
  induction fuel with
  | zero => intros; omega
  | succ fuel ih =>
    intro lo s h hlo hfuel
    obtain hfired | ⟨he, hfires⟩ := id h
    · exact State.walk_keeps_fired hi _ lo hfired
    · have hentry : s.DueAt cycle e.effective := .inr ⟨i, e, he, hfires.1, rfl⟩
      cases hdue : s.nextDue cycle lo hi with
      | none => exact absurd hentry ((State.nextDue_eq_none _ _ _ _).1 hdue _ hlo hhi)
      | some ph =>
        obtain ⟨hle, _, _, hleast⟩ := (State.nextDue_eq_some _ _ _ _ _).1 hdue
        have hph : ph ≤ e.effective := Nat.le_of_not_lt fun hlt => hleast _ hlo hlt hentry
        rw [State.walk_of_next_due hdue]
        obtain rfl | hlt := Nat.eq_or_lt_of_le hph
        · exact State.walk_keeps_fired hi _ _ (h.takePhase_self he hfires.1 hi)
        · exact ih _ _ (h.takePhase hi ph) hlt (by omega)

end

/-- An entry of the range that fires at the start of an advance has fired in its cycle at the end. -/
theorem State.advanceWalk_fires {s : State} {cycle : Count32} {hi lo : Nat} {i : EntryId} {e : Entry}
    (hlo : s.walkPos.next = some lo) (he : s.slot i = some e) (hle : lo ≤ e.effective) (hhi : e.effective ≤ hi)
    (hfires : s.Fires i e cycle) : (s.advanceWalk cycle hi).lastFired.get i = some cycle := by
  rw [State.advanceWalk_eq_walk hlo (fuel := hi + 1) (by omega)]
  exact State.FiredOrFires.walk hhi (hi + 1) lo s (.inr ⟨he, hfires⟩) hle (by omega)

/-! ### The pulse ends that are taken (R87, R89) -/

theorem LineState.endIn_eq_some (l : LineState) (cycle : Count32) (ph : Nat) :
    l.endIn cycle = some ph ↔ ∃ id seq, l.pulse = .phaseEnd id seq ph cycle := by
  unfold LineState.endIn
  cases l.pulse with
  | none => simp
  | timeEnd => simp
  | phaseEnd id seq endPhase c => by_cases hc : c = cycle <;> simp [hc]

/-- Every PHASE pulse of the table has a width (Table 3-1). -/
def State.PulsesHaveWidth (s : State) : Prop :=
  ∀ i e w, s.slot i = some e → e.fields.action = .pulse .phase w → 1 ≤ w

theorem State.PulsesHaveWidth.of_walked {s u : State} (h : s.PulsesHaveWidth)
    (hslots : ∀ i, SlotWalked (s.slot i) (u.slot i)) : u.PulsesHaveWidth := by
  intro i e w he hw
  obtain ⟨e₀, he₀, hfields, _⟩ := (he ▸ hslots i).entry
  exact h i e₀ w he₀ (hfields ▸ hw)

/-- A firing sets its pulse's end above its own phase, or in the next cycle. -/
theorem Entry.actOn_endIn {e : Entry} {i : EntryId} {cycle : Count32} {now q : Nat} {l : LineState}
    (hwidth : ∀ w, e.fields.action = .pulse .phase w → 1 ≤ w) (h : (e.actOn i cycle now l).endIn cycle = some q) :
    e.effective < q := by
  obtain ⟨id, seq, hpulse⟩ := (LineState.endIn_eq_some _ _ _).1 h
  rw [Entry.actOn_eq] at hpulse
  cases haction : e.fields.action with
  | set => simp [haction] at hpulse
  | clear => simp [haction] at hpulse
  | pulse kind w =>
    cases kind with
    | time => simp [haction] at hpulse
    | phase =>
      have := hwidth w haction
      simp only [haction] at hpulse
      split at hpulse
      · cases hpulse
        omega
      · have hnext : cycle + 1 = cycle := by injection hpulse
        bv_omega

/-- A phase leaves no pulse end of its own, and sets ends above it only. -/
theorem State.takePhase_endIn {s : State} {cycle : Count32} {last ph : Nat} (hwidth : s.PulsesHaveWidth) (l : Line)
    (q : Nat) (h : ((s.takePhase cycle last ph).line l).endIn cycle = some q) :
    ph < q ∨ q ≠ ph ∧ (s.line l).endIn cycle = some q := by
  refine (State.takePhase_ind (P := fun u => (∀ i, SlotWalked (s.slot i) (u.slot i)) ∧
    ∀ q, (u.line l).endIn cycle = some q → ph < q ∨ q ≠ ph ∧ (s.line l).endIn cycle = some q) s cycle last ph
    ⟨fun _ => .inl rfl, fun q hq => ?_⟩ fun u i e he _ hph ⟨hslots, hends⟩ =>
      ⟨fun j => (hslots j).trans (u.reach_slot_walked cycle last i j), fun q hq => ?_⟩).2 q h
  · rw [State.takePulseEnds_line] at hq
    split at hq
    · simp [LineState.endIn, LineState.endPulse] at hq
    · rename_i hne
      exact .inr ⟨fun heq => hne (heq ▸ hq), hq⟩
  · obtain hsame | ⟨e', he', _, _, hacted⟩ := u.reach_line cycle last i l
    · exact hends q (hsame ▸ hq)
    · obtain ⟨e₀, he₀, _, heffective⟩ := (he' ▸ hslots i).entry
      cases he.symm.trans he₀
      have := Entry.actOn_endIn (fun w => hwidth.of_walked hslots i e' w he') (hacted ▸ hq)
      exact .inl (by omega)

/-- A walk takes every pulse end of its range, also those that its own firings set. -/
theorem State.walk_endIn (cycle : Count32) (hi lo₀ : Nat) (l : Line) :
    ∀ (fuel lo : Nat) (s : State), s.PulsesHaveWidth → hi < lo + fuel →
      (∀ q, (s.line l).endIn cycle = some q → q < lo₀ ∨ lo ≤ q) →
      ∀ q, ((State.walk cycle hi fuel lo s).line l).endIn cycle = some q → q < lo₀ ∨ hi < q := by
  intro fuel
  induction fuel with
  | zero =>
    intro lo s _ hempty hbelow q hq
    have := hbelow q hq
    omega
  | succ fuel ih =>
    intro lo s hwidth hfuel hbelow
    have hends : ∀ q, (s.line l).endIn cycle = some q → s.DueAt cycle q := fun q hq =>
      .inl ⟨l, (LineState.endIn_eq_some _ _ _).1 hq⟩
    cases hdue : s.nextDue cycle lo hi with
    | none =>
      intro q hq
      rw [State.walk_of_nothing_due hdue] at hq
      refine (hbelow q hq).imp_right fun hlo => Nat.lt_of_not_le fun hhi => ?_
      exact (State.nextDue_eq_none _ _ _ _).1 hdue q hlo hhi (hends q hq)
    | some ph =>
      obtain ⟨hlo, _, _, hleast⟩ := (State.nextDue_eq_some _ _ _ _ _).1 hdue
      rw [State.walk_of_next_due hdue]
      refine ih _ _ (hwidth.of_walked fun i => s.takePhase_slot_walked cycle hi ph i) (by omega) fun q hq => ?_
      obtain habove | ⟨hne, hold⟩ := State.takePhase_endIn hwidth l q hq
      · exact .inr habove
      · refine (hbelow q hold).imp_right fun hle => ?_
        have : ¬q < ph := fun hlt => hleast q hle hlt (hends q hold)
        omega

/-- An advance leaves no pulse end of its cycle in its range. -/
theorem State.advanceWalk_endIn {s : State} {cycle : Count32} {hi lo : Nat} (hlo : s.walkPos.next = some lo)
    (hwidth : s.PulsesHaveWidth) (l : Line) (q : Nat)
    (h : ((s.advanceWalk cycle hi).line l).endIn cycle = some q) : q < lo ∨ hi < q := by
  rw [State.advanceWalk_eq_walk hlo (fuel := hi + 1) (by omega)] at h
  exact State.walk_endIn cycle hi lo l (hi + 1) lo s hwidth (by omega) (fun q _ => Nat.lt_or_ge q lo) q h

/-- Settles O44. -/
theorem advanceTakesWhatIsDueAndNothingElse : Obligations.AdvanceTakesWhatIsDueAndNothingElse := by
  intro cycle hi s
  refine ⟨s.advanceWalk_none cycle hi,
    fun ph => (s.takePhase_eq cycle hi ph).trans ?_, fun lo hlo => ?_⟩
  · rw [State.takePulseEnds_eq]
    rfl
  have hlines := s.advanceWalk_line_walked cycle hi
  have hsame := s.advanceWalk_same cycle hi
  refine ⟨fun hnone => ?_, fun ph hle hhi hdue hleast => ?_, fun i e he hle hhi hfires => ?_, ?_,
    fun hwidth l id seq ph hpulse => ?_, fun i hout => ?_, fun l => ?_, fun l => (hlines l).quiet,
    fun i e he => ?_, s.advanceWalk_port cycle hi, hsame.tracker, hsame.grant, hsame.nextSeq, hsame.hold,
    hsame.markChannel, hsame.indexChannel, hsame.now, hsame.pending⟩
  · exact State.advanceWalk_of_nothing_due hlo ((State.nextDue_eq_none _ _ _ _).2 hnone)
  · exact State.advanceWalk_of_next_due hlo ((State.nextDue_eq_some _ _ _ _ _).2 ⟨hle, hhi, hdue, hleast⟩)
  · exact State.advanceWalk_fires hlo he hle hhi hfires
  · exact s.advanceWalk_walkPos cycle hi lo hlo
  · exact State.advanceWalk_endIn hlo hwidth l ph ((LineState.endIn_eq_some _ _ _).2 ⟨id, seq, hpulse⟩)
  · exact State.advanceWalk_outside_range hlo cycle hi i hout
  · exact ⟨(hlines l).mode, (hlines l).owner, (hlines l).waiting⟩
  · obtain hslot | ⟨e', he', hspent⟩ := s.advanceWalk_slot_walked cycle hi i
    · exact .inl hslot
    · cases he.symm.trans he'
      exact .inr hspent

end Sys2Proof.Machine
end

section
/-! The line requests once admitted: each row of the tables of CLAIM_LINE, RELEASE_LINE and SET_LINE_MODE. -/

namespace Sys2Proof.Machine

/-! ### The rows of CLAIM_LINE and SET_LINE_MODE -/

section
variable {l : LineState} {p q : Port} {a : ClaimArgs}

theorem LineState.claim_of_unowned (h : l.owner = none) :
    l.claim p a = (l.ownedBy p a.polarity a.safeLevel, .ok, 0) := by
  simp only [LineState.claim, h]

theorem LineState.claim_of_owner (h : l.owner = some p) : l.claim p a = (l, .already, 0) := by
  simp only [LineState.claim, h, if_true]

theorem LineState.claim_of_waiter (h : l.owner = some q) (hq : q ≠ p) (hp : p ∈ l.waiting.map (·.port)) :
    l.claim p a = (l, .already, l.placeOf p) := by
  simp only [LineState.claim, h, placeOf_eq, if_neg hq, if_pos ((l.placeOf_ne_zero p).2 hp)]

/-- The claim of a port that neither owns the line nor waits for it. -/
theorem LineState.claim_of_other (h : l.owner = some q) (hq : q ≠ p) (hp : p ∉ l.waiting.map (·.port)) :
    l.claim p a =
      if a.wait = true ∧ l.waiting.length < 3 then
        ({ l with waiting := l.waiting ++ [{ port := p, polarity := a.polarity, safeLevel := a.safeLevel }] },
          .queued, l.waiting.length + 1)
      else (l, .lineTaken, 0) := by
  simp only [LineState.claim, h, placeOf_eq, if_neg hq, if_neg (mt (l.placeOf_ne_zero p).1 hp)]

theorem LineState.requestMode_run_of_safe (h : l.mode = .safe) :
    l.requestMode true = ({ l with mode := .ready }, .ok) := by
  simp only [LineState.requestMode, h]

theorem LineState.requestMode_run_of_asked (h : l.mode = .ready ∨ l.mode = .run) :
    l.requestMode true = (l, .already) := by
  obtain h | h := h <;> simp only [LineState.requestMode, h]

theorem LineState.requestMode_safe_of_safe (h : l.mode = .safe) : l.requestMode false = (l, .already) := by
  simp only [LineState.requestMode, h]

theorem LineState.requestMode_safe_of_asked (h : l.mode = .ready ∨ l.mode = .run) :
    l.requestMode false = (l.safed, .ok) := by
  obtain h | h := h <;> simp only [LineState.requestMode, h, LineState.makeSafe_eq]

theorem LineState.safed_mode_of_asked (h : l.mode = .ready ∨ l.mode = .run) : l.safed.mode = .safe := by
  rw [LineState.safed, if_pos h]

end

/-! ### The requests -/

/-- A request that changes one line and answers. -/
theorem State.onlyFrame_setLine_reply (s : State) (t : Nat) (p : Port) (l : Line) (x : LineState) (tag : Tag)
    (st : Status) (body : List Byte) :
    ((s.onlyFrame t p).setLine l x).reply p tag st body =
      { s.answers t p tag st body with lines := s.lines.set l x } := by
  rw [← State.onlyFrame_reply]
  rfl

/-- A request that puts the line back as it is only answers. -/
theorem State.answers_line_same (s : State) (t : Nat) (p : Port) (tag : Tag) (st : Status) (body : List Byte)
    (l : Line) : { s.answers t p tag st body with lines := s.lines.set l (s.line l) } = s.answers t p tag st body :=
  State.setLine_unchanged (s.answers t p tag st body) l

section
variable {s : State} {p : Port} (h : s.Admits p) (t : Nat) (tag : Tag)
include h

theorem exec_claimLine_of_admits {a : ClaimArgs} {x : LineState} {st : Status} {place : Nat}
    (hclaim : (s.line a.line).claim p a = (x, st, place)) :
    exec (.claimLine t p tag 0 a.bytes) s = .next
      { s.answers t p tag st [BitVec.ofNat 8 place] with lines := s.lines.set a.line x } := by
  simp only [exec, execClaimLine, (parseClaim_eq_some _ _).2 rfl]
  rw [State.request_of_admits h t tag {} a _ (fun h => nomatch h) rfl]
  simp only [State.onlyFrame_line, hclaim, State.onlyFrame_setLine_reply]

theorem exec_releaseLine_of_other {l : Line} (hother : (s.line l).owner ≠ some p) :
    exec (.releaseLine t p tag 0 [BitVec.ofNat 8 l.val]) s = .next
      (if (s.line l).placeOf p ≠ 0 then
        { s.answers t p tag .ok [] with lines := s.lines.set l ((s.line l).dropWaiter p) }
       else s.answers t p tag .notOwner []) := by
  simp only [exec, execReleaseLine, (parseLineBody_eq_some _ _).2 rfl]
  rw [State.request_of_admits h t tag {} l _ (fun h => nomatch h) rfl, State.onlyFrame_line, if_neg hother, placeOf_eq,
    State.onlyFrame_setLine_reply, State.onlyFrame_reply]

theorem exec_setLineMode_of_other {l : Line} (hother : (s.line l).owner ≠ some p) (run : Bool) :
    exec (.setLineMode t p tag 0 [BitVec.ofNat 8 l.val, if run then 3 else 1]) s = .next
      (s.answers t p tag .notOwner []) := by
  simp only [exec, execSetLineMode, (parseLineMode_eq_some _ _ _).2 rfl]
  rw [State.request_of_admits h t tag {} (l, run) _ (fun h => nomatch h) rfl, State.onlyFrame_line, if_neg hother,
    State.onlyFrame_reply]

theorem exec_setLineMode_of_owner {l : Line} (howner : (s.line l).owner = some p) {run : Bool} {x : LineState}
    {st : Status} (hmode : (s.line l).requestMode run = (x, st)) :
    exec (.setLineMode t p tag 0 [BitVec.ofNat 8 l.val, if run then 3 else 1]) s = .next
      { s.answers t p tag st [BitVec.ofNat 8 x.mode.code] with lines := s.lines.set l x } := by
  simp only [exec, execSetLineMode, (parseLineMode_eq_some _ _ _).2 rfl]
  rw [State.request_of_admits h t tag {} (l, run) _ (fun h => nomatch h) rfl]
  simp only [State.onlyFrame_line, if_pos howner, hmode, State.onlyFrame_setLine_reply]

end

/-- Settles O22, row by row. -/
theorem claimLineFollowsItsTable : Obligations.ClaimLineFollowsItsTable := by
  intro t p tag a s h
  refine ⟨fun hnone => ?_, fun howner => ?_, fun q howner hq => ⟨fun hwaits => ?_, fun hnot hfull => ?_,
    fun hnot hwait hroom => ?_⟩⟩
  · exact exec_claimLine_of_admits h t tag (LineState.claim_of_unowned hnone)
  · rw [exec_claimLine_of_admits h t tag (LineState.claim_of_owner howner), State.answers_line_same]
    rfl
  · rw [exec_claimLine_of_admits h t tag (LineState.claim_of_waiter howner hq hwaits), State.answers_line_same]
  · have hrefused : ¬(a.wait = true ∧ (s.line a.line).waiting.length < 3) := by
      rintro ⟨hwait, hroom⟩
      obtain hno | hthree := hfull
      · cases hwait.symm.trans hno
      · omega
    have hclaim := LineState.claim_of_other (a := a) howner hq hnot
    rw [if_neg hrefused] at hclaim
    rw [exec_claimLine_of_admits h t tag hclaim, State.answers_line_same]
    rfl
  · have hclaim := LineState.claim_of_other (a := a) howner hq hnot
    rw [if_pos ⟨hwait, hroom⟩] at hclaim
    exact exec_claimLine_of_admits h t tag hclaim

/-- Settles O23: the two rows of a port that does not own the line. -/
theorem releaseFromAnotherPortIsImmediate : Obligations.ReleaseFromAnotherPortIsImmediate := by
  intro t p tag l s h hother
  rw [exec_releaseLine_of_other h t tag hother]
  refine ⟨fun hwaits => ?_, fun hnot => ?_⟩
  · rw [if_pos (((s.line l).placeOf_ne_zero p).2 hwaits)]
    rfl
  · rw [if_neg (mt ((s.line l).placeOf_ne_zero p).1 hnot)]

/-- Settles O24: code 3 asks for RUN and code 1 for SAFE. -/
theorem setLineModeFollowsItsTable : Obligations.SetLineModeFollowsItsTable := by
  intro t p tag l s h
  refine ⟨fun hother m hm => ?_, fun howner => ⟨fun hsafe => ?_, fun hasked => ?_, fun hsafe => ?_,
    fun hasked => ?_⟩⟩
  · obtain rfl | rfl := hm
    · exact exec_setLineMode_of_other h t tag hother false
    · exact exec_setLineMode_of_other h t tag hother true
  · exact exec_setLineMode_of_owner h t tag howner (LineState.requestMode_run_of_safe hsafe)
  · have hexec := exec_setLineMode_of_owner h t tag howner (LineState.requestMode_run_of_asked hasked)
    rwa [State.answers_line_same] at hexec
  · have hexec := exec_setLineMode_of_owner h t tag howner (LineState.requestMode_safe_of_safe hsafe)
    rwa [State.answers_line_same, hsafe] at hexec
  · have hexec := exec_setLineMode_of_owner h t tag howner (LineState.requestMode_safe_of_asked hasked)
    rwa [LineState.safed_mode_of_asked hasked] at hexec

end Sys2Proof.Machine
end

section
/-! READ_SESSION and READ_LINES: their bodies as the layouts of Table 9-8 give them, and what a line's pin is driven to. -/

namespace Sys2Proof.Machine

/-! ### Packed fields -/

/-- Digits packed lowest first are the sum of each digit at its place. -/
theorem packDigits_eq_sum (base : Nat) : ∀ {n : Nat} (f : Fin n → Nat),
    packDigits base ((List.finRange n).map f) = ((List.finRange n).map fun i => f i * base ^ i.val).sum
  | 0, _ => rfl
  | n + 1, f => by
    have ih := packDigits_eq_sum base fun i : Fin n => f i.succ
    rw [List.finRange_succ, List.map_cons, List.map_map, packDigits]
    simp only [Function.comp_def]
    rw [ih, ← List.sum_map_mul_left, List.map_cons, List.map_map, List.sum_cons]
    simp only [Function.comp_def, Fin.val_zero, pow_zero, mul_one, Fin.val_succ, pow_succ]
    refine congrArg (fun xs : List Nat => f 0 + xs.sum) (List.map_congr_left fun i _ => ?_)
    ring

theorem toNat_mul_eq_ite (b : Bool) (n : Nat) : b.toNat * n = if b then n else 0 := by
  cases b
  · exact Nat.zero_mul n
  · exact Nat.one_mul n

theorem toNat_decide_mul (c : Prop) [Decidable c] (n : Nat) : (decide c).toNat * n = if c then n else 0 := by
  simp only [toNat_mul_eq_ite, decide_eq_true_eq]

theorem flagByte_decide (c : Prop) [Decidable c] : flagByte (decide c) = if c then 1 else 0 := by
  simp only [flagByte, decide_eq_true_eq]
  rfl

/-! ### The bodies -/

/-- The lines a port owns, bit by bit (R123). -/
theorem State.ownedBits_eq (s : State) (p : Port) :
    packDigits 2 (s.lines.cells.map fun l => (decide (l.owner = some p)).toNat) =
      ((List.finRange 16).map fun l => if (s.line l).owner = some p then 2 ^ l.val else 0).sum := by
  rw [Bank.cells_eq, List.map_map, packDigits_eq_sum]
  exact congrArg List.sum (List.map_congr_left fun l _ => toNat_decide_mul _ _)

/-- The port's places in the waiting lists, two bits a line (R123). -/
theorem State.waitingPlaces_eq (s : State) (p : Port) :
    packDigits 4 (s.lines.cells.map fun l => Machine.placeOf p l.waiting) =
      ((List.finRange 16).map fun l => (s.line l).placeOf p * 4 ^ l.val).sum := by
  rw [Bank.cells_eq, List.map_map, packDigits_eq_sum]
  simp only [Function.comp_def, State.lines_get, placeOf_eq]

/-- The OPEN sessions, bit by bit (R123). -/
theorem packDigits_allPorts (f : Port → Bool) :
    packDigits 2 (allPorts.map fun q => (f q).toNat) =
      (allPorts.map fun q => if f q then 2 ^ portCode q else 0).sum := by
  simp only [← toNat_mul_eq_ite, allPorts, List.map_cons, List.map_nil, List.sum_cons, List.sum_nil, packDigits,
    portCode]
  ring

theorem State.sessionBody_of_opened {s : State} {p : Port} {limit start : Nat}
    (h : (s.port p).session = .opened limit start) :
    s.sessionBody p =
      [1, (s.port p).epoch] ++ leBytes 2 limit ++
        [BitVec.ofNat 8 (s.port p).quota, BitVec.ofNat 8 (s.slotsWith fun e => decide (e.owner = p))] ++
        leBytes 2 ((List.finRange 16).map fun l => if (s.line l).owner = some p then 2 ^ l.val else 0).sum ++
        leBytes 4 ((List.finRange 16).map fun l => (s.line l).placeOf p * 4 ^ l.val).sum ++
        [if s.grant = some p then 1 else 0, optPortByte s.grant,
         BitVec.ofNat 8 ((allPorts.map fun q => if (s.port q).isOpen then 2 ^ portCode q else 0).sum)] := by
  simp only [State.sessionBody, h, State.entryCount_eq, State.ownedBits_eq, State.waitingPlaces_eq, flagByte_decide,
    packDigits_allPorts]

theorem State.linesBody_eq (s : State) :
    s.linesBody =
      ((List.finRange 16).flatMap fun l => (s.line l).shownBytes) ++ [if s.hold.pin = .low then 1 else 0] := by
  rw [State.linesBody, Bank.cells_eq, List.flatMap_map, State.holdAsserted, flagByte_decide]
  rfl

/-- A frame taken changes no field that READ_SESSION shows. -/
theorem State.onlyFrame_sessionBody {s : State} {p : Port} {limit start : Nat} (t : Nat)
    (h : (s.port p).session = .opened limit start) : (s.onlyFrame t p).sessionBody p = s.sessionBody p := by
  have hframe : ((s.onlyFrame t p).port p).session = .opened limit (max s.now t) := by
    simp [PortState.afterFrame, h]
  have hopen : ∀ q, ((s.onlyFrame t p).port q).isOpen = (s.port q).isOpen := fun q => by
    rw [State.onlyFrame_port]
    split
    · rename_i hq
      rw [PortState.afterFrame_isOpen, hq]
    · rfl
  rw [State.sessionBody_of_opened hframe, State.sessionBody_of_opened h]
  simp only [hopen, State.onlyFrame_port_self, PortState.afterFrame_epoch, PortState.afterFrame_quota]
  rfl

theorem State.onlyFrame_linesBody (s : State) (t : Nat) (p : Port) : (s.onlyFrame t p).linesBody = s.linesBody := by
  rw [State.linesBody_eq, State.linesBody_eq]
  simp only [State.onlyFrame_line]
  rw [show (s.onlyFrame t p).hold.pin = s.hold.pin from s.advanceTo_hold_pin t]

/-! ### The requests and the pin -/

theorem exec_readSession_of_admits {s : State} {p : Port} (h : s.Admits p) (t : Nat) (tag : Tag) :
    exec (.readSession t p tag 0 []) s = .next (s.answers t p tag .ok ((s.onlyFrame t p).sessionBody p)) := by
  rw [← State.onlyFrame_reply]
  exact congrArg Host.Outcome.next (State.request_of_admits h t tag {} () _ (fun h => nomatch h) rfl)

theorem exec_readLines_of_admits {s : State} {p : Port} (h : s.Admits p) (t : Nat) (tag : Tag) :
    exec (.readLines t p tag 0 []) s = .next (s.answers t p tag .ok (s.onlyFrame t p).linesBody) := by
  rw [← State.onlyFrame_reply]
  exact congrArg Host.Outcome.next (State.request_of_admits h t tag {} () _ (fun h => nomatch h) rfl)

theorem LineState.pin_of_run {l : LineState} (h : l.mode = .run) :
    l.pin = if (l.active = true ↔ l.polarity = .activeHigh) then .high else .low := by
  simp only [LineState.pin, h]
  cases l.active <;> cases l.polarity <;> rfl

/-- Settles O15: both requests only answer, with bodies that the frame itself leaves as they were. -/
theorem sessionAndLinesAreReadWithoutChange : Obligations.SessionAndLinesAreReadWithoutChange := by
  refine ⟨fun t p tag limit start s htakes hsession => ?_, fun t p tag s h => ?_, fun l =>
    ⟨fun hreleased => ?_, fun hsafe => ?_, LineState.pin_of_run⟩⟩
  · rw [exec_readSession_of_admits (.of_opened htakes hsession), State.onlyFrame_sessionBody t hsession,
      State.sessionBody_of_opened hsession]
    rfl
  · rw [exec_readLines_of_admits h, State.onlyFrame_linesBody, State.linesBody_eq]
    rfl
  · simp only [LineState.pin, hreleased]
  · obtain hsafe | hsafe := hsafe <;> simp only [LineState.pin, hsafe]

end Sys2Proof.Machine
end

section
/-! The lines' invariant line by line: what it asks of one line, given which ports are OPEN and whether lines may be in
RUN, and what each change of a line makes of it. -/

namespace Sys2Proof.Machine

/-! ### One line -/

/-- What the lines' invariant asks of one line (R93, R95, R97, R100, R103, R108). -/
structure LineState.InOrder (opened : Port → Prop) (mayRun : Prop) (l : LineState) : Prop where
  unowned : l.owner = none → l = LineState.released
  owned : ∀ p, l.owner = some p → l.mode ≠ .released
  quiet : l.mode ≠ .run → l.active = false ∧ l.pulse = .none
  running : l.mode = .run → mayRun
  asked : ∀ p, l.owner = some p → l.mode = .ready ∨ l.mode = .run → opened p
  fewWait : l.waiting.length ≤ 3
  onceEach : (l.waiting.map (·.port)).Nodup
  notOwner : ∀ w ∈ l.waiting, l.owner ≠ some w.port

theorem LineState.InOrder.released {opened : Port → Prop} {mayRun : Prop} :
    LineState.released.InOrder opened mayRun := by
  constructor <;> simp [LineState.released]

section
variable {opened opened' : Port → Prop} {mayRun mayRun' : Prop} {l l' : LineState}

theorem LineState.InOrder.mono (h : l.InOrder opened mayRun) (hopen : ∀ p, opened p → opened' p)
    (hrun : mayRun → mayRun') : l.InOrder opened' mayRun' :=
  { h with
    running := fun hm => hrun (h.running hm)
    asked := fun p hp hm => hopen p (h.asked p hp hm) }

/-- A line that is not RELEASED has an owner. -/
theorem LineState.InOrder.owner_ne_none (h : l.InOrder opened mayRun) (hm : l.mode ≠ .released) : l.owner ≠ none :=
  fun hn => hm (by rw [h.unowned hn]; rfl)

/-- What the walker can make of a line: it keeps its mode, and outside RUN, where no pulse is pending, everything. -/
theorem LineState.InOrder.walked (h : l.InOrder opened mayRun) (hw : l.Walked l') : l'.InOrder opened mayRun := by
  by_cases hm : l.mode = .run
  · have howned : l.owner ≠ none := h.owner_ne_none (by rw [hm]; decide)
    have hm' : l'.mode = .run := hw.mode.trans hm
    exact
      { unowned := fun hn => absurd (hw.owner ▸ hn) howned
        owned := fun _ _ => by rw [hm']; decide
        quiet := fun hq => absurd hm' hq
        running := fun _ => h.running hm
        asked := fun p hp _ => h.asked p (hw.owner ▸ hp) (.inr hm)
        fewWait := hw.waiting ▸ h.fewWait
        onceEach := hw.waiting ▸ h.onceEach
        notOwner := by
          rw [hw.waiting, hw.owner]
          exact h.notOwner }
  · rwa [hw.quiet hm (h.quiet hm).2]

/-- Outside RUN there is no pulse to end. -/
theorem LineState.InOrder.endPulse (h : l.InOrder opened mayRun) : l.endPulse.InOrder opened mayRun := by
  refine h.walked ⟨rfl, rfl, rfl, fun hm _ => ?_⟩
  obtain ⟨hactive, hpulse⟩ := h.quiet hm
  rw [LineState.endPulse, ← hactive, ← hpulse]

/-- An owned line that goes to another mode with nothing pending (R95). -/
theorem LineState.InOrder.leaveTo (h : l.InOrder opened mayRun) (hl : l.mode ≠ .released) {m : LineMode}
    (hm : m ≠ .released) (hrun : m = .run → mayRun')
    (hasked : m = .ready ∨ m = .run → ∀ p, l.owner = some p → opened' p) :
    (l.leaveTo m).InOrder opened' mayRun' where
  unowned hn := absurd hn (h.owner_ne_none hl)
  owned _ _ := hm
  quiet _ := ⟨rfl, rfl⟩
  running := hrun
  asked p hp hm := hasked hm p hp
  fewWait := h.fewWait
  onceEach := h.onceEach
  notOwner := h.notOwner

/-- A line that is in neither READY nor RUN is in order whoever is OPEN and whether or not lines may run. -/
theorem LineState.InOrder.of_resting (h : l.InOrder opened mayRun) (hready : l.mode ≠ .ready) (hrun : l.mode ≠ .run) :
    l.InOrder opened' mayRun' :=
  { h with
    running := fun hm => absurd hm hrun
    asked := fun _ _ hm => absurd hm (not_or.2 ⟨hready, hrun⟩) }

/-- A line withdrawn from RUN is in order whether or not lines may run (R104, R106). -/
theorem LineState.InOrder.withdraw (h : l.InOrder opened mayRun) : l.withdraw.InOrder opened mayRun' := by
  by_cases hm : l.mode = .run
  · rw [LineState.withdraw_eq, if_pos hm]
    exact h.leaveTo (by rw [hm]; decide) (by decide) (fun hr => nomatch hr) fun _ p hp => h.asked p hp (.inr hm)
  · rw [LineState.withdraw_eq, if_neg hm]
    exact { h with running := fun hr => absurd hr hm }

/-- A READY line enters RUN where lines may (R103). -/
theorem LineState.InOrder.enterRun (h : l.InOrder opened mayRun) (hrun : mayRun) :
    l.enterRun.InOrder opened mayRun := by
  rw [LineState.enterRun_eq]
  split
  · rename_i hm
    exact h.leaveTo (by rw [hm]; decide) (by decide) (fun _ => hrun) fun _ p hp => h.asked p hp (.inl hm)
  · exact h

/-- A line put in SAFE no longer needs its owner OPEN (R98, R102, R108). -/
theorem LineState.InOrder.safed (h : l.InOrder opened mayRun) : l.safed.InOrder opened' mayRun' := by
  unfold LineState.safed
  split
  · rename_i hm
    refine h.leaveTo ?_ (by decide) (fun hr => nomatch hr) fun hr => by obtain hr | hr := hr <;> cases hr
    obtain hm | hm := hm <;> rw [hm] <;> decide
  · rename_i hm
    exact h.of_resting (not_or.1 hm).1 (not_or.1 hm).2

/-- The owner asks for a SAFE line to run (R102). -/
theorem LineState.InOrder.ask (h : l.InOrder opened mayRun) (hm : l.mode = .safe)
    (hopen : ∀ p, l.owner = some p → opened p) : LineState.InOrder opened mayRun { l with mode := .ready } := by
  obtain ⟨hactive, hpulse⟩ := h.quiet (by rw [hm]; decide)
  have hready : l.leaveTo .ready = { l with mode := .ready } := by rw [LineState.leaveTo, ← hactive, ← hpulse]
  rw [← hready]
  exact h.leaveTo (by rw [hm]; decide) (by decide) (fun hr => nomatch hr) fun _ => hopen

/-- Waiting records that leave keep the line in order (R97). -/
theorem LineState.InOrder.of_sublist (h : l.InOrder opened mayRun) {ws : List Waiter} (hws : ws.Sublist l.waiting) :
    LineState.InOrder opened mayRun { l with waiting := ws } :=
  { h with
    unowned := fun hn => by
      have hl := h.unowned hn
      rw [hl] at hws ⊢
      rw [List.sublist_nil.1 hws]
      rfl
    fewWait := hws.length_le.trans h.fewWait
    onceEach := h.onceEach.sublist (hws.map _)
    notOwner := fun w hw => h.notOwner w (hws.subset hw) }

theorem LineState.InOrder.dropWaiter (h : l.InOrder opened mayRun) (p : Port) :
    (l.dropWaiter p).InOrder opened mayRun :=
  h.of_sublist List.filter_sublist

/-- A teardown of `p` begins: the lines of `p` are SAFE, and the other owners stay as they were (R108). -/
theorem LineState.InOrder.afterTeardownOf (h : l.InOrder opened mayRun) (p : Port)
    (hopen : ∀ q, q ≠ p → opened q → opened' q) (hrun : mayRun → mayRun') :
    (l.afterTeardownOf p).InOrder opened' mayRun' := by
  refine LineState.InOrder.of_sublist
    (l := if l.owner = some p then l.safed else l) ?_ ?_
  · split
    · exact h.safed
    · rename_i hother
      exact { h with
        running := fun hm => hrun (h.running hm)
        asked := fun q hq hm => hopen q (fun hqp => hother (hqp ▸ hq)) (h.asked q hq hm) }
  · split
    · rw [LineState.safed_waiting]
      exact List.filter_sublist
    · exact List.filter_sublist

/-- A line handed over is its first waiter's, SAFE, or RELEASED (R100). -/
theorem LineState.InOrder.handedOver (h : l.InOrder opened mayRun) : l.handedOver.InOrder opened' mayRun' := by
  have honce := h.onceEach
  have hfew := h.fewWait
  unfold LineState.handedOver
  cases hw : l.waiting with
  | nil => exact .released
  | cons w ws =>
    rw [hw, List.map_cons, List.nodup_cons] at honce
    rw [hw, List.length_cons] at hfew
    exact
      { unowned := fun hn => nomatch hn
        owned := fun _ _ hm => nomatch hm
        quiet := fun _ => ⟨rfl, rfl⟩
        running := fun hm => nomatch hm
        asked := fun _ _ hm => by obtain hm | hm := hm <;> cases hm
        fewWait := Nat.le_of_succ_le hfew
        onceEach := honce.2
        notOwner := fun v hv hvw => honce.1 (List.mem_map.2 ⟨v, hv, (Option.some.inj hvw).symm⟩) }

/-- An unowned line claimed: nothing waits for it (R96). -/
theorem LineState.InOrder.ownedBy (h : l.InOrder opened mayRun) (hnone : l.owner = none) (p : Port) (pol : Polarity)
    (safe : Drive) : (l.ownedBy p pol safe).InOrder opened mayRun := by
  rw [h.unowned hnone]
  constructor <;> simp [LineState.ownedBy, LineState.released]

/-- A port that neither owns the line nor waits for it joins the waiting list (R96, R97). -/
theorem LineState.InOrder.enqueue (h : l.InOrder opened mayRun) {q : Port} (hq : l.owner = some q) {w : Waiter}
    (hqw : q ≠ w.port) (hw : w.port ∉ l.waiting.map (·.port)) (hroom : l.waiting.length < 3) :
    LineState.InOrder opened mayRun { l with waiting := l.waiting ++ [w] } :=
  { h with
    unowned := fun hn => nomatch hq.symm.trans hn
    fewWait := by simpa using hroom
    onceEach := by
      rw [List.map_append, List.map_singleton, List.nodup_append_comm]
      exact List.nodup_cons.2 ⟨hw, h.onceEach⟩
    notOwner := fun v hv => by
      obtain hv | hv := List.mem_append.1 hv
      · exact h.notOwner v hv
      · rw [List.mem_singleton.1 hv, hq]
        exact fun heq => hqw (Option.some.inj heq) }

theorem LineState.InOrder.claim (h : l.InOrder opened mayRun) (p : Port) (a : ClaimArgs) :
    (l.claim p a).1.InOrder opened mayRun := by
  cases howner : l.owner with
  | none =>
    rw [LineState.claim_of_unowned howner]
    exact h.ownedBy howner _ _ _
  | some q =>
    by_cases hq : q = p
    · subst hq
      rwa [LineState.claim_of_owner howner]
    · by_cases hp : p ∈ l.waiting.map (·.port)
      · rwa [LineState.claim_of_waiter howner hq hp]
      · rw [LineState.claim_of_other howner hq hp]
        split
        · rename_i hroom
          exact h.enqueue howner hq hp hroom.2
        · exact h

theorem LineState.InOrder.requestMode (h : l.InOrder opened mayRun) {p : Port} (howner : l.owner = some p)
    (hopen : opened p) (run : Bool) : (l.requestMode run).1.InOrder opened mayRun := by
  have hm : l.mode = .safe ∨ l.mode = .ready ∨ l.mode = .run := by
    have hl := h.owned p howner
    cases hm : l.mode with
    | released => exact absurd hm hl
    | safe => exact .inl rfl
    | ready => exact .inr (.inl rfl)
    | run => exact .inr (.inr rfl)
  obtain hsafe | hasked := hm
  · cases run
    · rwa [LineState.requestMode_safe_of_safe hsafe]
    · rw [LineState.requestMode_run_of_safe hsafe]
      exact h.ask hsafe fun q hq => Option.some.inj (howner.symm.trans hq) ▸ hopen
  · cases run
    · rw [LineState.requestMode_safe_of_asked hasked]
      exact h.safed
    · rwa [LineState.requestMode_run_of_asked hasked]

end

end Sys2Proof.Machine
end

section
/-! The lines' invariant of the state, and along the changes of one field, the walker, the boundaries and the end of
tracking. -/

namespace Sys2Proof.Machine

/-! ### The invariant of the state, line by line -/

/-- The port's session is OPEN. -/
def State.Opened (s : State) (p : Port) : Prop := (s.port p).isOpen = true

/-- Lines may be in RUN: the tracker is LOCKED or COASTING and HOLD is sampled high (R103, R105). -/
def State.AllowsRun (s : State) : Prop :=
  s.tracker.state.tracks = true ∧ s.hold.pin = .high ∧ s.hold.awaiting = none

theorem linesInv_iff (s : State) : LinesInv s ↔ ∀ l, (s.line l).InOrder s.Opened s.AllowsRun := by
  constructor
  · intro h l
    exact ⟨h.unowned l, h.owned l, h.quiet l, h.running l, h.asked l, h.fewWait l, h.onceEach l, h.notOwner l⟩
  · intro h
    exact
      { unowned := fun l => (h l).unowned
        owned := fun l => (h l).owned
        quiet := fun l => (h l).quiet
        running := fun l => (h l).running
        asked := fun l => (h l).asked
        fewWait := fun l => (h l).fewWait
        onceEach := fun l => (h l).onceEach
        notOwner := fun l => (h l).notOwner }

/-- No session is less OPEN, lines that may be in RUN still may, and each line stays in order. -/
theorem LinesInv.of_lines {s u : State} (h : LinesInv s) (hopen : ∀ p, s.Opened p → u.Opened p)
    (hrun : s.AllowsRun → u.AllowsRun)
    (hline : ∀ l, (s.line l).InOrder u.Opened u.AllowsRun → (u.line l).InOrder u.Opened u.AllowsRun) : LinesInv u :=
  (linesInv_iff u).2 fun l => hline l (((linesInv_iff s).1 h l).mono hopen hrun)

/-- The lines themselves are as they were. -/
theorem LinesInv.of_lines_same {s u : State} (h : LinesInv s) (hopen : ∀ p, s.Opened p → u.Opened p)
    (hrun : s.AllowsRun → u.AllowsRun) (hline : ∀ l, u.line l = s.line l) : LinesInv u :=
  h.of_lines hopen hrun fun l hl => hline l ▸ hl

theorem State.OnlyArrivals.opened {s u : State} (h : s.OnlyArrivals u) : u.Opened = s.Opened := by
  funext p
  obtain ⟨-, -, -, hopen, -⟩ := h.keeps p
  rw [State.Opened, State.Opened, hopen]

/-- Records arrive, the tracker and HOLD are as they were, and each line stays in order. -/
theorem LinesInv.of_arrivals {s u : State} (h : LinesInv s) (ha : s.OnlyArrivals u) (htracker : u.tracker = s.tracker)
    (hhold : u.hold = s.hold)
    (hline : ∀ l, (s.line l).InOrder s.Opened s.AllowsRun → (u.line l).InOrder s.Opened s.AllowsRun) : LinesInv u := by
  have hopen := ha.opened
  have hrun : u.AllowsRun = s.AllowsRun := by rw [State.AllowsRun, State.AllowsRun, htracker, hhold]
  refine h.of_lines (fun _ hp => hopen ▸ hp) (fun hr => hrun ▸ hr) fun l hl => ?_
  rw [hopen, hrun] at hl ⊢
  exact hline l hl

/-- Every line that was in RUN is withdrawn, so that lines may be forbidden to run (R104, R106). -/
theorem LinesInv.of_withdraw {s u : State} (h : LinesInv s) (hport : ∀ p, u.port p = s.port p)
    (hline : ∀ l, u.line l = (s.line l).withdraw) : LinesInv u := by
  have hopen : u.Opened = s.Opened := funext fun p => by rw [State.Opened, State.Opened, hport]
  refine (linesInv_iff u).2 fun l => ?_
  rw [hline, hopen]
  exact ((linesInv_iff s).1 h l).withdraw

/-! ### One field changed -/

section
variable {s : State} (h : LinesInv s)
include h

theorem LinesInv.setPort {p : Port} {x : PortState} (hx : (s.port p).isOpen = true → x.isOpen = true) :
    LinesInv (s.setPort p x) := by
  refine h.of_lines_same (fun q hq => ?_) id fun _ => rfl
  rw [State.Opened, State.setPort_port]
  split
  · rename_i hpq
    subst hpq
    exact hx hq
  · exact hq

theorem LinesInv.setLine {l : Line} {x : LineState}
    (hx : (s.line l).InOrder s.Opened s.AllowsRun → x.InOrder s.Opened s.AllowsRun) : LinesInv (s.setLine l x) := by
  refine h.of_lines (fun _ => id) id fun k hk => ?_
  rw [State.setLine_line]
  split
  · rename_i hlk
    subst hlk
    exact hx hk
  · exact hk

theorem LinesInv.mapLines {f : LineState → LineState}
    (hf : ∀ l : LineState, l.InOrder s.Opened s.AllowsRun → (f l).InOrder s.Opened s.AllowsRun) :
    LinesInv (s.setLines (s.lines.map f)) := by
  refine h.of_lines (fun _ => id) id fun l hl => ?_
  rw [State.setLines_line, Bank.get_map]
  exact hf _ hl

theorem LinesInv.setTracker {x : Tracker} (hx : s.tracker.state.tracks = true → x.state.tracks = true) :
    LinesInv (s.setTracker x) :=
  h.of_lines_same (fun _ => id) (fun hr => ⟨hx hr.1, hr.2⟩) fun _ => rfl

theorem LinesInv.setHold {x : HoldInput}
    (hx : s.hold.pin = .high → s.hold.awaiting = none → x.pin = .high ∧ x.awaiting = none) :
    LinesInv (s.setHold x) :=
  h.of_lines_same (fun _ => id) (fun hr => ⟨hr.1, hx hr.2.1 hr.2.2⟩) fun _ => rfl

theorem LinesInv.setWalkPos (x : WalkPos) : LinesInv (s.setWalkPos x) := { h with }

theorem LinesInv.setSlots (x : Bank (Option Entry) 128) : LinesInv (s.setSlots x) := { h with }

theorem LinesInv.setGrant (x : Option Port) : LinesInv (s.setGrant x) := { h with }

theorem LinesInv.setChannel (ch : Channel) (c : ChannelState) : LinesInv (s.setChannel ch c) := by
  cases ch
  · exact { h with }
  · exact { h with }

theorem LinesInv.advanceTo (t : Nat) : LinesInv (s.advanceTo t) :=
  h.of_lines_same (fun _ => id)
    (fun ⟨htracks, hpin, hawaiting⟩ =>
      ⟨htracks, (s.advanceTo_hold_pin t).trans hpin, s.hold.settle_awaiting_none (max s.now t) hawaiting⟩)
    fun _ => rfl

theorem LinesInv.post (dest : Port → PortState → Bool) (r : Record) : LinesInv (s.post dest r) :=
  h.of_arrivals (.of_post s dest r) rfl rfl fun _ => id

theorem LinesInv.postPortJob (p : Port) (j : PortJob) : LinesInv (s.postPortJob p j) := { h with }

theorem LinesInv.reply (p : Port) (tag : Tag) (st : Status) (body : List Byte) : LinesInv (s.reply p tag st body) :=
  h.setPort id

theorem LinesInv.beginLong (p : Port) (r : LongRequest) (tag : Tag) : LinesInv (s.beginLong p r tag) :=
  h.setPort id

theorem LinesInv.finishLong (p : Port) (r : LongRequest) (st : Status) (body : List Byte) :
    LinesInv (s.finishLong p r st body) := by
  rw [State.finishLong_eq]
  exact h.setPort fun hopen => by rwa [PortState.completed_isOpen]

/-! ### The walker, boundaries and the end of tracking -/

theorem LinesInv.advanceWalk (cycle : Count32) (hi : Nat) : LinesInv (s.advanceWalk cycle hi) :=
  have hsame := s.advanceWalk_same cycle hi
  h.of_arrivals ((State.OnlyArrivals.refl s).then_advanceWalk) hsame.tracker hsame.hold fun l hl =>
    hl.walked (s.advanceWalk_line_walked cycle hi l)

/-- READY lines enter RUN at a boundary of a tracking tracker, where HOLD allows it (R103). -/
theorem LinesInv.takeBoundary (htracks : s.tracker.state.tracks = true) (period : Nat) (cycle : Count32) (ph : Nat)
    (slip : Option (Nat × Nat)) : LinesInv (s.takeBoundary period cycle ph slip) := by
  obtain ⟨draws, ports, heq, -⟩ := s.takeBoundary_eq period cycle ph slip
  refine h.of_arrivals ((State.OnlyArrivals.refl s).then_takeBoundary) (s.takeBoundary_tracker ..) (by rw [heq]; rfl)
    fun l hl => ?_
  rw [State.takeBoundary_line]
  split
  · rename_i hreleased
    exact hl.enterRun ⟨htracks, of_decide_eq_true hreleased⟩
  · exact hl

theorem LinesInv.cutPulses (cycle : Count32) : LinesInv (s.cutPulses cycle) :=
  h.mapLines fun l hl => by
    split
    · split
      · exact hl.endPulse
      · exact hl
    · exact hl

/-- The notice of tracking ended lets the tracker go to any state (R104). -/
theorem LinesInv.endTracking (x : Tracker) : LinesInv (s.setTracker x).trackingEnded :=
  h.of_withdraw (fun _ => rfl) fun l => Bank.get_map _ _ l

theorem LinesInv.loseTracking (cause : StateCause) : LinesInv (s.loseTracking cause) :=
  (h.endTracking _).post _ _

end

end Sys2Proof.Machine
end

section
/-! The lines' invariant along the marks, the sessions, the completions and the samples of HOLD. -/

namespace Sys2Proof.Machine

/-! ### Marks -/

/-- An accepted mark leaves the tracker's state to the steps that follow (R25). -/
theorem Tracker.accept_state (t : Tracker) (n : Nat) : (t.accept n).state = t.state :=
  (apply_ite Tracker.state _ _ _).trans (ite_self _)

section
variable {s : State} (h : LinesInv s)
include h

theorem LinesInv.postChange (old new : TrackerState) (cause : StateCause) : LinesInv (s.postChange old new cause) := by
  unfold State.postChange
  split
  · exact h
  · exact h.post _ _

theorem LinesInv.postIf (c : Bool) (dest : Port → PortState → Bool) (r : Record) :
    LinesInv (if c then s.post dest r else s) := by
  split
  · exact h.post _ _
  · exact h

theorem LinesInv.stepPosition {new : TrackerState} (hnew : new.tracks = true) (cause : StateCause) (pos : Nat)
    (slip : Option Nat) : LinesInv (s.stepPosition new cause pos slip) := by
  cases slip with
  | none =>
    refine ((h.setTracker ?_).postChange _ _ _).advanceWalk _ _
    exact fun _ => hnew
  | some k =>
    refine (((h.setTracker ?_).postChange _ _ _).post _ _).advanceWalk _ _
    exact fun _ => hnew

/-- The state of the tracker is in place before the boundary, so that lines that enter RUN find it tracking. -/
theorem LinesInv.stepBoundary {new : TrackerState} (hnew : new.tracks = true) (cause : StateCause) (missed : Nat)
    (report : Bool) (align : Option Nat) : LinesInv (s.stepBoundary new cause missed report align) := by
  cases align with
  | none =>
    refine (((((h.setTracker ?_).postChange _ _ _).postIf report _ _).advanceWalk _ _).takeBoundary ?_ _ _ _
      _).advanceWalk _ _
    · exact fun _ => hnew
    · rw [(State.advanceWalk_same _ _ _).tracker,
        (State.SameTracking.ite (.then_post (.then_postChange (.refl _))) (.then_postChange (.refl _))).tracker]
      exact hnew
  | some k =>
    refine (((((h.setTracker ?_).postChange _ _ _).postIf report _ _).cutPulses _).takeBoundary ?_ _ _ _
      _).advanceWalk _ _
    · exact fun _ => hnew
    · rw [(State.SameTracking.then_cutPulses
        (.ite (.then_post (.then_postChange (.refl _))) (.then_postChange (.refl _)))).tracker]
      exact hnew

theorem LinesInv.stepMark {new : TrackerState} (hnew : new.tracks = true) (cause : StateCause) :
    LinesInv (s.stepMark new cause) := by
  unfold State.stepMark
  split
  · exact h.stepPosition hnew _ _ _
  · exact h.stepPosition hnew _ _ _
  · exact h.stepBoundary hnew _ _ _ _
  · exact h.stepBoundary hnew _ _ _ _
  · refine ((h.setTracker ?_).post _ _).loseTracking _
    exact id

theorem LinesInv.acquireMark (n : Nat) : LinesInv (s.acquireMark n) := by
  have hacquired : LinesInv (s.setTracker (s.tracker.acquire n)) :=
    h.setTracker fun ht => by rwa [Tracker.acquire_eq, Tracker.acquired_state]
  unfold State.acquireMark
  dsimp only
  split
  · refine ((hacquired.setTracker ?_).setWalkPos _).post _ _
    exact fun _ => rfl
  · exact hacquired

theorem LinesInv.judgeMark (n : Nat) : LinesInv (s.judgeMark n) := by
  unfold State.judgeMark
  split
  · exact h.post _ _
  · exact (h.setTracker fun ht => by rwa [Tracker.accept_state]).stepMark rfl _

theorem LinesInv.takeMark (n : Nat) : LinesInv (s.takeMark n) := by
  unfold State.takeMark
  split
  case h_1 => exact h
  case h_2 => exact h.acquireMark n
  case h_3 => exact h.judgeMark n
  case h_4 => exact h.judgeMark n
  case h_5 hlost =>
    unfold State.reacquireMark
    split
    · refine ((h.setTracker fun ht => ?_).post _ _).acquireMark n
      rw [hlost] at ht
      cases ht
    · exact h

theorem LinesInv.takeIndex : LinesInv s.takeIndex := by
  unfold State.takeIndex
  split
  · exact h
  · exact h
  · exact h.setTracker id

theorem LinesInv.completeHold (ch : Channel) : LinesInv (s.completeHold ch) := h.setChannel ch _

theorem LinesInv.recognise (ch : Channel) : LinesInv (s.recognise ch) := by
  unfold State.recognise
  split
  · cases ch
    · exact (h.completeHold .mark).takeMark _
    · exact (h.completeHold .index).takeIndex
  · exact h.completeHold ch

theorem LinesInv.substituteMark : LinesInv s.substituteMark := by
  have hstep : LinesInv ((s.setTracker s.tracker.substitute).stepMark .coasting .coast) :=
    (h.setTracker (x := s.tracker.substitute) id).stepMark rfl .coast
  unfold State.substituteMark
  dsimp only
  split
  · exact hstep
  · exact hstep.post _ _

theorem LinesInv.stopTracker : LinesInv s.stopTracker := by
  refine LinesInv.post ?_ _ _
  split
  · exact h.endTracking _
  · rename_i htracks
    exact h.setTracker fun ht => absurd ht htracks

theorem LinesInv.startTracker (hstate : s.tracker.state = .stopped ∨ s.tracker.state = .lost) :
    LinesInv s.startTracker := by
  refine (h.setTracker fun ht => ?_).post _ _
  obtain hstate | hstate := hstate <;> rw [hstate] at ht <;> cases ht

/-! ### Sessions -/

theorem LinesInv.openSession (p : Port) (tag : Tag) (limit : Nat) : LinesInv (s.openSession p tag limit) :=
  ((h.setPort fun _ => rfl).post _ _).reply _ _ _ _

/-- A teardown of `p` begins, whatever becomes of the port: its lines are SAFE (R108). -/
theorem LinesInv.beginTeardown (p : Port) (x : PortState) : LinesInv ((s.setPort p x).beginTeardown p) := by
  rw [State.beginTeardown_eq_chooseJob]
  refine (linesInv_iff _).2 fun l => ?_
  change (((s.setPort p x).tearingDown p).line l).InOrder _ _
  rw [State.tearingDown_line]
  refine ((linesInv_iff s).1 h l).afterTeardownOf p (fun q hqp hq => ?_) id
  change (((s.setPort p x).tearingDown p).port q).isOpen = true
  rwa [State.tearingDown_port_ne hqp]

theorem LinesInv.closeSession {p : Port} (hopen : (s.port p).isOpen = true) (tag : Tag) :
    LinesInv (s.closeSession p tag) := by
  obtain ⟨limit, start, hsession⟩ := (PortState.isOpen_eq_true _).1 hopen
  rw [State.closeSession_eq hsession]
  exact h.beginTeardown p _

theorem LinesInv.silenceTeardown {p : Port} (hdue : s.silenceDue p = true) : LinesInv (s.silenceTeardown p) := by
  obtain ⟨limit, start, hsession, -⟩ := (State.silenceDue_eq_true _ _).1 hdue
  rw [State.silenceTeardown_eq hsession]
  exact h.beginTeardown p _

/-! ### Completions -/

theorem LinesInv.endPulseOf (id : EntryId) (e : Entry) : LinesInv (s.endPulseOf id e) := by
  unfold State.endPulseOf
  split
  · exact h.setLine fun hl => hl.endPulse
  · exact h

theorem LinesInv.handOver (l : Line) : LinesInv (s.handOver l) := by
  have hfields := s.handOver_eq l
  refine h.of_arrivals ((State.OnlyArrivals.refl s).then_handOver) (by rw [hfields]) (by rw [hfields]) fun k hk => ?_
  have hline : (s.handOver l).line k = if l = k then (s.line l).handedOver else s.line k := by
    rw [hfields]
    exact Bank.get_set _ _ _ _
  rw [hline]
  split
  · rename_i hlk
    subst hlk
    exact hk.handedOver
  · exact hk

theorem LinesInv.insert (p : Port) (f : EntryFields) : LinesInv (s.insert p f) := by
  unfold State.insert
  split
  · exact h.finishLong _ _ _ _
  · split
    · exact h.finishLong _ _ _ _
    · rename_i id _
      have hcreated : LinesInv (((s.setSlot id (some (newEntry p f s.nextSeq))).setNextSeq
          (s.nextSeq + 1)).setLastFired (s.lastFired.set id none)) := { h with }
      exact hcreated.finishLong _ _ _ _

theorem LinesInv.deleteEntry (p : Port) (id : EntryId) : LinesInv (s.deleteEntry p id) := by
  unfold State.deleteEntry
  split
  · exact h.finishLong _ _ _ _
  · split
    · exact ((h.setSlots _).endPulseOf _ _).finishLong _ _ _ _
    · exact h.finishLong _ _ _ _

theorem LinesInv.clearLine (p : Port) (l : Line) : LinesInv (s.clearLine p l) := by
  have hremoved : LinesInv (s.removeEntries fun e => e.isOn p l) := h.setSlots _
  refine LinesInv.finishLong ?_ _ _ _ _
  split
  · exact hremoved.setLine fun hl => hl.endPulse
  · exact hremoved

theorem LinesInv.releaseLine (p : Port) (l : Line) : LinesInv (s.releaseLine p l) :=
  ((h.setSlots _).handOver l).finishLong _ _ _ _

/-- A port that is CLOSING has no line in READY or RUN, and at the end of its teardown it owns none (R108, R121). -/
theorem LinesInv.finishTeardown (p : Port) : LinesInv (s.finishTeardown p) := by
  cases hsession : (s.port p).session with
  | closed | opened =>
    simp only [State.finishTeardown, hsession]
    exact h
  | closing limit cause =>
    rw [State.finishTeardown_eq hsession fun l hl w hw hwp => h.notOwner l w hw (hwp ▸ hl)]
    refine h.of_lines (fun q hq => ?_) id fun l hl => ?_
    · have hqp : q ≠ p := by
        rintro rfl
        rw [State.Opened, PortState.isOpen, hsession] at hq
        cases hq
      change PortState.isOpen (PerPort.get (PerPort.mapPort _ _) q) = true
      rw [PerPort.get_mapPort, if_neg hqp]
      split
      · rw [PortState.arrive_isOpen, State.granted_isOpen]
        exact hq
      · rw [State.granted_isOpen]
        exact hq
    · change LineState.InOrder _ _ (Bank.get (Bank.map _ _) l)
      rw [Bank.get_map]
      split
      · exact hl.handedOver
      · exact hl

theorem LinesInv.sweep (p : Port) : LinesInv (s.sweep p) := (h.setSlots _).finishTeardown p

theorem LinesInv.removeSpent (id : EntryId) (seq : Count32) : LinesInv (s.removeSpent id seq) := by
  unfold State.removeSpent
  split
  · split
    · exact h.setSlots _
    · exact h
  · exact h

/-- The engine's own work changes no line. -/
theorem LinesInv.completeJob {effect : State → State} (heffect : ∀ v, LinesInv v → LinesInv (effect v)) :
    LinesInv (s.completeJob effect) := by
  have hserved : LinesInv s.served := { h with }
  rw [State.completeJob_eq]
  exact { heffect _ hserved with }

end

/-! ### The HOLD input -/

/-- A sample that shows no change leaves a HOLD input that has had its first sample as it was. -/
theorem HoldInput.sample_keeps {h h' : HoldInput} {level : Level} {now : Nat} (hs : h.sample level now = (h', none))
    (ha : h.awaiting = none) : h' = h := by
  unfold HoldInput.sample at hs
  split at hs
  · cases hs
    rfl
  · cases hs

/-- A sample that shows a change finds the pin at the other level. -/
theorem HoldInput.pin_of_sample_change {h h' : HoldInput} {level level' : Level} {now : Nat}
    (hs : h.sample level now = (h', some level')) : h.pin ≠ level := by
  unfold HoldInput.sample at hs
  split at hs
  · cases hs
  · rename_i hnew
    have ha : h.awaiting = none := by
      by_contra ha
      rw [if_neg ha] at hs
      cases hs
    exact fun hpin => hnew (.inr ⟨ha, hpin⟩)

/-- A sample that shows no change leaves lines that may run free to run. -/
theorem LinesInv.setHold_of_no_change {s : State} (h : LinesInv s) {x : HoldInput} {level : Level} {now : Nat}
    (hs : s.hold.sample level now = (x, none)) : LinesInv (s.setHold x) :=
  h.setHold fun hpin hawaiting => by
    rw [HoldInput.sample_keeps hs hawaiting]
    exact ⟨hpin, hawaiting⟩

end Sys2Proof.Machine
end

section
/-! The lines' invariant along every request, along every command, and along every step. -/

namespace Sys2Proof.Machine

/-! ### Frames and requests -/

section
variable {s : State} (h : LinesInv s)
include h

theorem LinesInv.onlyFrame (t : Nat) (p : Port) : LinesInv (s.onlyFrame t p) :=
  (h.advanceTo t).setPort fun hopen => by rwa [PortState.afterFrame_isOpen]

/-- A frame keeps the invariant if what it asks keeps it. -/
theorem LinesInv.takeFrame (t : Nat) (p : Port) (act : State → State) (hact : ∀ v, LinesInv v → LinesInv (act v)) :
    LinesInv (s.takeFrame t p act) :=
  State.takeFrame_ind s t p act ((h.advanceTo t).setPort id) (h.onlyFrame t p) fun _ => hact _ (h.onlyFrame t p)

/-- A request keeps the invariant if what it does once admitted keeps it. -/
theorem LinesInv.request {α : Type} (t : Nat) (p : Port) (tag rsv : Tag) (needs : Needs) (args : Option α)
    (act : α → State → State)
    (hact : ∀ (a : α) (v : State), LinesInv v → (needs.session = true → (v.port p).isOpen = true) →
      needs.tracker v.tracker.state = true → LinesInv (act a v)) :
    LinesInv (s.takeFrame t p fun v => v.admission p tag rsv needs args act) :=
  h.takeFrame t p _ fun v hv =>
    State.admit_ind v p tag rsv needs args act (fun _ => hv.reply _ _ _ _) fun a _ hopen _ ht => hact a v hv hopen ht

/-- RELEASE_LINE from its three kinds of ports (R98, R99). -/
theorem LinesInv.releaseRequest (p : Port) (tag : Tag) (l : Line) :
    LinesInv
      (if (s.line l).owner = some p then
        ((s.setLine l (s.line l).makeSafe).beginLong p .releaseLine tag).postPortJob p (.releaseDeletion l)
      else if Machine.placeOf p (s.line l).waiting ≠ 0 then (s.setLine l ((s.line l).dropWaiter p)).reply p tag .ok []
      else s.reply p tag .notOwner []) := by
  split_ifs
  · rw [LineState.makeSafe_eq]
    exact ((h.setLine fun hl => hl.safed).beginLong _ _ _).postPortJob _ _
  · exact (h.setLine fun hl => hl.dropWaiter p).reply _ _ _ _
  · exact h.reply _ _ _ _

end

/-! ### Every command -/

/-- Every line of a reset is RELEASED. -/
theorem State.resetAt_line (t : Nat) (mark index hold : Level) (l : Line) :
    (State.resetAt t mark index hold).line l = LineState.released := Bank.get_fill LineState.released l

/-- Every command keeps the lines' invariant. -/
theorem exec_linesInv (i : Instr) (s u : State) (hs : LinesInv s) (h : exec i s = .next u) : LinesInv u := by
  have hnow : ∀ t, LinesInv (s.advanceTo t) := hs.advanceTo
  cases i with
  | reset t mark index hold =>
    cases h
    refine (linesInv_iff _).2 fun l => ?_
    change LineState.InOrder _ _ ((State.resetAt (max s.now t) mark index hold).line l)
    rw [State.resetAt_line]
    exact .released
  | transactionStart t p =>
    cases h
    split
    · exact (hnow t).setPort id
    · exact hnow t
  | frameError t p bytes =>
    cases h
    split
    · exact (hnow t).setPort id
    · refine LinesInv.reply ?_ _ _ _ _
      exact (hnow t).setPort id
    · exact (hnow t).setPort id
  | nop t p =>
    cases h
    exact hs.takeFrame t p id fun _ hv => hv
  | unknownRequestCode t p tag rsv code body =>
    cases h
    exact hs.takeFrame t p _ fun _ hv => hv.reply _ _ _ _
  | openSession t p tag rsv body =>
    cases h
    refine hs.request t p _ _ _ _ _ fun limit v hv _ _ => ?_
    split
    · exact hv.openSession p tag limit
    · exact hv.reply _ _ _ _
  | closeSession t p tag rsv body =>
    cases h
    exact hs.request t p _ _ _ _ _ fun _ v hv hopen _ => hv.closeSession (hopen rfl) tag
  | requestGrant t p tag rsv body =>
    cases h
    refine hs.request t p _ _ _ _ _ fun _ v hv _ _ => ?_
    split
    · exact (hv.setGrant _).reply _ _ _ _
    · exact hv.reply _ _ _ _
  | releaseGrant t p tag rsv body =>
    cases h
    refine hs.request t p _ _ _ _ _ fun _ v hv _ _ => ?_
    split
    · exact (hv.setGrant _).reply _ _ _ _
    · exact hv.reply _ _ _ _
  | setTracker t p tag rsv body =>
    cases h
    refine hs.request t p _ _ _ _ _ fun c v hv _ _ =>
      (((hv.setTracker ?_).setChannel .mark _).setChannel .index _).reply _ _ _ _
    exact id
  | startTracker t p tag rsv body =>
    cases h
    exact hs.request t p _ _ _ _ _ fun _ v hv _ hstate =>
      (hv.startTracker (by simpa [needsForStart] using hstate)).reply _ _ _ _
  | stopTracker t p tag rsv body =>
    cases h
    refine hs.request t p _ _ _ _ _ fun _ v hv _ _ => LinesInv.reply ?_ _ _ _ _
    split
    · exact hv
    · exact hv.stopTracker
  | claimLine t p tag rsv body =>
    cases h
    exact hs.request t p _ _ _ _ _ fun a v hv _ _ => (hv.setLine fun hl => hl.claim p a).reply _ _ _ _
  | releaseLine t p tag rsv body =>
    cases h
    exact hs.request t p _ _ _ _ _ fun l v hv _ _ => hv.releaseRequest p tag l
  | setLineMode t p tag rsv body =>
    cases h
    refine hs.request t p _ _ _ _ _ fun a v hv hopen _ => ?_
    split
    · rename_i howner
      exact (hv.setLine fun hl => hl.requestMode howner (hopen rfl) a.2).reply _ _ _ _
    · exact hv.reply _ _ _ _
  | insertEntry t p tag rsv body | clearLineEntries t p tag rsv body =>
    cases h
    refine hs.request t p _ _ _ _ _ fun _ v hv _ _ => ?_
    split
    · exact (hv.beginLong _ _ _).postPortJob _ _
    · exact hv.reply _ _ _ _
  | deleteEntry t p tag rsv body =>
    cases h
    exact hs.request t p _ _ _ _ _ fun _ v hv _ _ => (hv.beginLong _ _ _).postPortJob _ _
  | readEntry t p tag rsv body =>
    cases h
    refine hs.request t p _ _ _ _ _ fun _ v hv _ _ => ?_
    split
    · exact hv.reply _ _ _ _
    · split
      · exact hv.reply _ _ _ _
      · exact hv.reply _ _ _ _
  | readSession t p tag rsv body | readTracker t p tag rsv body | readHistory t p tag rsv body
  | readLines t p tag rsv body | listEntries t p tag rsv body =>
    cases h
    exact hs.request t p _ _ _ _ _ fun _ v hv _ _ => hv.reply _ _ _ _
  | setQuota t p tag rsv body | readEvents t p tag rsv body | setEventMask t p tag rsv body
  | setAttention t p tag rsv body =>
    cases h
    refine hs.request t p _ _ _ _ _ fun _ v hv _ _ => LinesInv.reply ?_ _ _ _ _
    exact hv.setPort id
  | ackAttention t p tag rsv body =>
    cases h
    exact hs.request t p _ _ _ _ _ fun _ v hv _ _ => (hv.reply _ _ _ _).setPort id
  | mark t =>
    cases h
    split
    · exact ((hnow t).completeHold .mark).takeMark _
    · exact hnow t
  | indexEdge t =>
    cases h
    split
    · exact ((hnow t).completeHold .index).takeIndex
    · exact hnow t
  | unselectedTransition t ch =>
    cases h
    split
    · split
      · exact hnow t
      · exact (hnow t).completeHold ch
    · exact hnow t
  | conditionerHoldBegins t ch sample =>
    cases h
    split
    · exact (hnow t).recognise ch
    · exact (hnow t).setChannel ch _
  | conditionerHoldAbandoned t ch =>
    cases h
    exact (hnow t).setChannel ch _
  | noMarkLimit t =>
    cases h
    split
    · refine (hnow t).setTracker ?_
      exact id
    · exact hnow t
  | lateTimeout t =>
    cases h
    split
    · split
      · exact (hnow t).substituteMark
      · exact (hnow t).loseTracking _
    · exact hnow t
  | phaseRise t =>
    cases h
    split
    · refine ((hnow t).setTracker ?_).advanceWalk _ _
      exact id
    · exact hnow t
  | pulseTimerExpiry t l =>
    cases h
    split
    · exact (hnow t).setLine fun hl => hl.endPulse
    · exact hnow t
  | holdAssertion t =>
    cases h
    split
    · refine LinesInv.post ?_ _ _
      exact (hnow t).of_withdraw (fun _ => rfl) fun l => Bank.get_map _ _ l
    · rename_i hsample
      exact (hnow t).setHold_of_no_change hsample
  | holdDeassertion t =>
    cases h
    split
    · rename_i hsample
      refine LinesInv.post ?_ _ _
      exact (hnow t).setHold fun hpin => absurd hpin (HoldInput.pin_of_sample_change hsample)
    · rename_i hsample
      exact (hnow t).setHold_of_no_change hsample
  | silenceExpiry t p =>
    cases h
    split
    · exact (hnow t).silenceTeardown ‹_›
    · exact hnow t
  | insertionCompletes t =>
    cases h
    split
    · exact (hnow t).completeJob fun _ hv => hv.insert _ _
    · exact hnow t
  | entryDeletionCompletes t =>
    cases h
    split
    · exact (hnow t).completeJob fun _ hv => hv.deleteEntry _ _
    · exact hnow t
  | lineClearCompletes t =>
    cases h
    split
    · exact (hnow t).completeJob fun _ hv => hv.clearLine _ _
    · exact hnow t
  | releaseDeletionCompletes t =>
    cases h
    split
    · exact (hnow t).completeJob fun _ hv => hv.releaseLine _ _
    · exact hnow t
  | teardownSweepCompletes t =>
    cases h
    split
    · exact (hnow t).completeJob fun _ hv => hv.sweep _
    · exact hnow t
  | spentRemovalCompletes t =>
    cases h
    split
    · exact (hnow t).completeJob fun _ hv => hv.removeSpent _ _
    · exact hnow t

/-- Settles O58: every command keeps the invariant, and an idle tick is time passed. -/
theorem everyStepKeepsTheLinesInvariant : Obligations.EveryStepKeepsTheLinesInvariant := by
  intro s u hs hstep
  unfold step at hstep
  split at hstep
  case h_1 c rest _ => exact exec_linesInv c (s.setPending rest) u { hs with } hstep
  case h_2 =>
    cases hstep
    exact { hs.advanceTo (s.now + 1) with }

end Sys2Proof.Machine
end

section
/-! The ports' invariant port by port: slot, register and session in step with one another, and the queue with the
conditions that watch its depth, each with what an operation on a port keeps of it. -/

namespace Sys2Proof.Machine

/-! ### Slot, register and session -/

/-- What the invariant asks of a port's session, slot and register together (R119, R132, R135). -/
structure Slot.InStep (session : Session) (slot : Slot) (reply : Reply) : Prop where
  pendingIff : (∃ tag epoch, reply = .pending tag epoch) ↔ slot ≠ .idle
  closedIdle : session = .closed → slot = .idle
  closingIff : (∃ limit cause, session = .closing limit cause) ↔
    ((∃ tag, slot = .teardown tag) ∨ ∃ tag, slot = .working .closeSession tag)

section
variable {session : Session} {slot : Slot} {reply : Reply} {limit start : Nat} {tag : Tag}

/-- An IDLE slot stays in step when a reply is put in its register (R136, R140). -/
theorem Slot.InStep.answer (h : Slot.InStep session .idle reply) (tag : Tag) (st : Status) (body : List Byte)
    (epoch : Byte) : Slot.InStep session .idle (.done tag st body epoch) :=
  { h with pendingIff := by simp }

/-- The session of an IDLE port opens (R114). -/
theorem Slot.InStep.openSession (h : Slot.InStep session .idle reply) : Slot.InStep (.opened limit start) .idle reply :=
  { pendingIff := h.pendingIff, closedIdle := nofun, closingIff := by simp }

/-- The silence timer starts again (R116). -/
theorem Slot.InStep.restart (h : Slot.InStep (.opened limit start) slot reply) (now : Nat) :
    Slot.InStep (.opened limit now) slot reply :=
  { pendingIff := h.pendingIff, closedIdle := nofun, closingIff := by simpa using h.closingIff }

/-- A long request of an OPEN port that is not CLOSE_SESSION begins (R141). -/
theorem Slot.InStep.begin {r : LongRequest} (hr : r ≠ .closeSession) (tag : Tag) (epoch : Byte) :
    Slot.InStep (.opened limit start) (.working r tag) (.pending tag epoch) :=
  { pendingIff := by simp, closedIdle := nofun, closingIff := by simpa using hr }

/-- The work of a long request that is not CLOSE_SESSION completes (R136, R141). -/
theorem Slot.InStep.finish {r : LongRequest} (hr : r ≠ .closeSession) (h : Slot.InStep session (.working r tag) reply)
    (st : Status) (body : List Byte) (epoch : Byte) : Slot.InStep session .idle (.done tag st body epoch) :=
  { pendingIff := by simp, closedIdle := fun _ => rfl, closingIff := by simpa [hr] using h.closingIff }

/-- A CLOSE_SESSION holds the slot of the port that it makes CLOSING (R118, R119). -/
theorem Slot.InStep.close (cause : TeardownCause) (tag : Tag) (epoch : Byte) :
    Slot.InStep (.closing limit cause) (.working .closeSession tag) (.pending tag epoch) :=
  { pendingIff := by simp, closedIdle := nofun, closingIff := by simp }

/-- A silence's teardown takes over a slot and leaves PENDING a register that was PENDING (R119). -/
theorem Slot.InStep.takeOver (cause : TeardownCause) (tag : Tag) (h : ∃ tag epoch, reply = .pending tag epoch) :
    Slot.InStep (.closing limit cause) (.teardown tag) reply :=
  { pendingIff := iff_of_true h nofun, closedIdle := nofun, closingIff := by simp }

/-- A teardown's end leaves its port CLOSED and IDLE with its reply (R121, R122). -/
theorem Slot.InStep.tornDown (tag : Tag) (st : Status) (body : List Byte) (epoch : Byte) :
    Slot.InStep .closed .idle (.done tag st body epoch) :=
  { pendingIff := by simp, closedIdle := fun _ => rfl, closingIff := by simp }

end

/-! ### The queue and its conditions -/

/-- What the invariant asks of a port's queue and of the conditions that watch its depth (R149, R153, R156). -/
structure Attention.Watches (a : Attention) (q : List EventRecord) : Prop where
  depth : q.length ≤ 32
  fullEndsLost : q.length = 32 → newestIsLost q = true
  watermarkRange : 1 ≤ a.watermark ∧ a.watermark ≤ 31
  watermarkHolds : a.watermarkHolds = decide (a.watermark ≤ q.length)
  nonemptyHolds : a.nonemptyHolds = decide (1 ≤ q.length)

theorem EventRecord.bumpLost_isLost {r : EventRecord} (h : r.isLost = true) : r.bumpLost.isLost = true := by
  unfold EventRecord.bumpLost
  split
  · rfl
  · exact h

theorem newestIsLost_append (q : List EventRecord) (r : EventRecord) : newestIsLost (q ++ [r]) = r.isLost := by
  simp [newestIsLost]

theorem bumpNewest_length (q : List EventRecord) : (bumpNewest q).length = q.length := by
  unfold bumpNewest
  split
  · rename_i hlast
    have hpos := List.length_pos_of_mem (List.mem_of_getLast? hlast)
    simp
    omega
  · rfl

/-- Counting an arrival in a LOST record leaves it a LOST record. -/
theorem newestIsLost_bumpNewest {q : List EventRecord} (h : newestIsLost q = true) :
    newestIsLost (bumpNewest q) = true := by
  unfold newestIsLost at h
  unfold bumpNewest
  split at h
  · rw [newestIsLost_append]
    exact EventRecord.bumpLost_isLost h
  · cases h

/-- A record that arrives keeps the queue within 32 records, and a full queue ends in a LOST record (R149). -/
theorem storeRecord_keeps {q : List EventRecord} (hdepth : q.length ≤ 32)
    (hlost : q.length = 32 → newestIsLost q = true) (seq : Byte) (r : Record) :
    (storeRecord q seq r).1.length ≤ 32 ∧
      ((storeRecord q seq r).1.length = 32 → newestIsLost (storeRecord q seq r).1 = true) := by
  unfold storeRecord
  split_ifs with hroom hlast
  · simp only [List.length_append, List.length_singleton]
    omega
  · refine ⟨?_, fun _ => newestIsLost_append _ _⟩
    simp [hlast.1]
  · rw [bumpNewest_length]
    exact ⟨hdepth, fun hfull => newestIsLost_bumpNewest (hlost hfull)⟩

section
variable {a : Attention} {q : List EventRecord} (h : a.Watches q)
include h

theorem Attention.Watches.withLatched (c : CauseSet) : Attention.Watches { a with latched := c } q := { h with }

/-- A new depth is watched once the conditions are evaluated at it, and at the old depth nothing is evaluated (R153). -/
theorem Attention.Watches.atDepth {q' : List EventRecord} (hdepth : q'.length ≤ 32)
    (hlost : q'.length = 32 → newestIsLost q' = true) :
    (if q'.length = q.length then a else a.atDepth q'.length).Watches q' := by
  split
  · rename_i hsame
    exact ⟨hdepth, hlost, h.watermarkRange, hsame ▸ h.watermarkHolds, hsame ▸ h.nonemptyHolds⟩
  · exact ⟨hdepth, hlost, h.watermarkRange, rfl, rfl⟩

/-- The oldest records removed (R151). -/
theorem Attention.Watches.removeOldest (n : Nat) :
    (if (q.drop n).length = q.length then a else a.atDepth (q.drop n).length).Watches (q.drop n) := by
  have hlength := List.length_drop (i := n) (l := q)
  have hdepth := h.depth
  refine h.atDepth (by omega) fun hfull => ?_
  have hn : n = 0 := by omega
  subst hn
  exact h.fullEndsLost hfull

/-- The settings replaced and WATERMARK evaluated afresh (R156). -/
theorem Attention.Watches.setAttention (args : AttentionArgs) (hrange : 1 ≤ args.watermark ∧ args.watermark ≤ 31) :
    Attention.Watches
      { a with
        enables := args.enables, watermarkEdge := args.watermarkEdge, nonemptyEdge := args.nonemptyEdge,
        watermark := args.watermark, watermarkHolds := decide (args.watermark ≤ q.length) } q :=
  { h with watermarkRange := hrange, watermarkHolds := rfl }

/-- An empty queue with both conditions false. -/
theorem Attention.Watches.empty (c : CauseSet) :
    Attention.Watches { a with latched := c, watermarkHolds := false, nonemptyHolds := false } [] :=
  { depth := Nat.zero_le _
    fullEndsLost := nofun
    watermarkRange := h.watermarkRange
    watermarkHolds := (decide_eq_false (Nat.not_le.2 h.watermarkRange.1)).symm
    nonemptyHolds := rfl }

end

/-! ### One port -/

/-- The two parts of a port's invariant, and its quota. -/
theorem portInv_iff (ps : PortState) :
    PortInv ps ↔ Slot.InStep ps.session ps.slot ps.reply ∧ ps.attention.Watches ps.queue ∧ ps.quota ≤ 128 :=
  ⟨fun h => ⟨{ h with }, { h with }, h.quota⟩, fun ⟨hstep, hwatch, hquota⟩ => { hstep, hwatch with quota := hquota }⟩

section
variable {ps : PortState} (h : PortInv ps)
include h

theorem PortInv.inStep : Slot.InStep ps.session ps.slot ps.reply := ((portInv_iff ps).1 h).1

theorem PortInv.watches : ps.attention.Watches ps.queue := ((portInv_iff ps).1 h).2.1

theorem PortInv.arrive (r : Record) : PortInv (ps.arrive r) := by
  obtain ⟨hdepth, hlost⟩ := storeRecord_keeps h.depth h.fullEndsLost ps.queueSeq r
  exact (portInv_iff _).2 ⟨h.inStep, (h.watches.atDepth hdepth hlost).withLatched _, h.quota⟩

/-- The register of an IDLE slot passes to DONE (R140). -/
theorem PortInv.passToDone (hidle : ps.slot = .idle) (tag : Tag) (st : Status) (body : List Byte) :
    PortInv (ps.passToDone tag st body) := by
  have hstep := h.inStep
  rw [hidle] at hstep
  refine (portInv_iff _).2 ⟨?_, h.watches.withLatched _, h.quota⟩
  change Slot.InStep ps.session ps.slot _
  rw [hidle]
  exact hstep.answer _ _ _ _

/-- A frame restarts the silence timer of an OPEN session and leaves every other session (R116, R130). -/
theorem PortInv.afterFrame (now : Nat) : PortInv (ps.afterFrame now) := by
  refine (portInv_iff _).2 ⟨?_, h.watches, h.quota⟩
  have hstep := h.inStep
  cases hsession : ps.session with
  | opened limit start =>
    rw [hsession] at hstep
    simpa only [PortState.afterFrame, hsession] using hstep.restart now
  | closed | closing =>
    rw [hsession] at hstep
    simpa only [PortState.afterFrame, hsession] using hstep

theorem PortInv.completed {r : LongRequest} (hr : r ≠ .closeSession) (st : Status) (body : List Byte) :
    PortInv (ps.completed r st body) := by
  have hstep := h.inStep
  unfold PortState.completed
  split
  · rename_i r' tag hslot
    split
    · rename_i heq
      rw [hslot, heq] at hstep
      exact (portInv_iff _).2 ⟨hstep.finish hr st body ps.epoch, h.watches.withLatched _, h.quota⟩
    · exact h
  · exact h
  · exact h

theorem PortInv.beginLong (hopen : ps.isOpen = true) {r : LongRequest} (hr : r ≠ .closeSession) (tag : Tag) :
    PortInv { ps.passToPending tag with slot := .working r tag } := by
  obtain ⟨limit, start, hsession⟩ := (PortState.isOpen_eq_true ps).1 hopen
  refine (portInv_iff _).2 ⟨?_, h.watches, h.quota⟩
  change Slot.InStep ps.session _ _
  rw [hsession]
  exact Slot.InStep.begin hr tag ps.epoch

/-- An OPEN port's slot is no teardown's, so a silence finds it IDLE or WORKING (R119). -/
theorem PortInv.takeSlot {limit start : Nat} (hsession : ps.session = .opened limit start) (cause : TeardownCause) :
    PortInv { ps.takeSlot with session := .closing limit cause } := by
  have hstep := h.inStep
  unfold PortState.takeSlot
  split
  · exact (portInv_iff _).2 ⟨.takeOver cause 0 ⟨0, ps.epoch, rfl⟩, h.watches, h.quota⟩
  · rename_i r tag hslot
    exact (portInv_iff _).2
      ⟨.takeOver cause tag (hstep.pendingIff.2 (by rw [hslot]; nofun)), h.watches, h.quota⟩
  · rename_i tag hslot
    obtain ⟨limit', cause', hclosing⟩ := hstep.closingIff.2 (.inl ⟨tag, hslot⟩)
    cases hsession.symm.trans hclosing

/-- A port at the end of its teardown (R121, R122). -/
theorem PortInv.tornDown (cause : TeardownCause) :
    PortInv { ps.closeDown.passToDone ps.slot.tag cause.status [] with slot := .idle } := by
  rw [PortState.tornDown_eq h]
  exact (portInv_iff _).2 ⟨.tornDown _ _ _ _, h.watches.empty _, h.quota⟩

end

theorem PortInv.arrivals : ∀ (rs : List Record) {ps : PortState}, PortInv ps → PortInv (rs.foldl PortState.arrive ps)
  | [], _, h => h
  | r :: rs, _, h => PortInv.arrivals rs (h.arrive r)

end Sys2Proof.Machine
end

section
/-! The ports' invariant of the state: along the operations that only let records arrive, along frames, sessions and
completions, and along every step. -/

namespace Sys2Proof.Machine

/-! ### What only lets records arrive -/

theorem State.OnlyArrivals.then_setChannel {s u : State} {ch c} (h : s.OnlyArrivals u) :
    s.OnlyArrivals (u.setChannel ch c) := by
  cases ch <;> exact ⟨h.out⟩

theorem State.OnlyArrivals.then_takeIndex {s u : State} (h : s.OnlyArrivals u) : s.OnlyArrivals u.takeIndex := by
  unfold State.takeIndex
  split
  · exact h
  · exact h
  · exact h.then_setTracker

theorem State.OnlyArrivals.then_recognise {s u : State} {ch} (h : s.OnlyArrivals u) :
    s.OnlyArrivals (u.recognise ch) := by
  unfold State.recognise
  split
  · cases ch
    · exact h.then_setChannel.then_takeMark
    · exact h.then_setChannel.then_takeIndex
  · exact h.then_setChannel

theorem State.OnlyArrivals.then_stopTracker {s u : State} (h : s.OnlyArrivals u) : s.OnlyArrivals u.stopTracker := by
  unfold State.stopTracker
  refine State.OnlyArrivals.then_postState ?_
  exact .ite h.then_setTracker.then_trackingEnded h.then_setTracker

/-- The events of the inputs, the tracker and the lines, which concern no port but by their records. -/
def isInputOrTimerEvent : Instr → Bool
  | .mark .. | .indexEdge .. | .unselectedTransition .. | .conditionerHoldBegins .. | .conditionerHoldAbandoned ..
  | .noMarkLimit .. | .lateTimeout .. | .phaseRise .. | .pulseTimerExpiry .. | .holdAssertion ..
  | .holdDeassertion .. => true
  | _ => false

theorem exec_onlyArrivals (i : Instr) (s u : State) (hi : isInputOrTimerEvent i = true) (h : exec i s = .next u) :
    s.OnlyArrivals u := by
  have hnow : ∀ t, s.OnlyArrivals (s.advanceTo t) := fun _ => .of_port_eq fun _ => rfl
  cases i with
  | mark t =>
    cases h
    split
    · exact (hnow t).then_setChannel.then_takeMark
    · exact hnow t
  | indexEdge t =>
    cases h
    split
    · exact (hnow t).then_setChannel.then_takeIndex
    · exact hnow t
  | unselectedTransition t ch =>
    cases h
    split
    · exact .ite (hnow t) (hnow t).then_setChannel
    · exact hnow t
  | conditionerHoldBegins t ch sample =>
    cases h
    exact .ite (hnow t).then_recognise (hnow t).then_setChannel
  | conditionerHoldAbandoned t ch =>
    cases h
    exact (hnow t).then_setChannel
  | noMarkLimit t =>
    cases h
    exact .ite (hnow t).then_setTracker (hnow t)
  | lateTimeout t =>
    cases h
    exact .ite (.ite (hnow t).then_substituteMark (hnow t).then_loseTracking) (hnow t)
  | phaseRise t =>
    cases h
    exact .ite (hnow t).then_setTracker.then_advanceWalk (hnow t)
  | pulseTimerExpiry t l =>
    cases h
    exact .ite (hnow t).then_setLine (hnow t)
  | holdAssertion t =>
    cases h
    split
    · exact (hnow t).then_setHold.then_setLines.then_post
    · exact (hnow t).then_setHold
  | holdDeassertion t =>
    cases h
    split
    · exact (hnow t).then_setHold.then_post
    · exact (hnow t).then_setHold
  | _ => cases hi

theorem PortsInv.of_arrivals {s u : State} (h : PortsInv s) (ha : s.OnlyArrivals u) : PortsInv u := fun p => by
  obtain ⟨rs, hrs⟩ := ha.out p
  rw [hrs]
  exact PortInv.arrivals rs (h p)

/-! ### Frames and requests -/

section
variable {s : State} (h : PortsInv s)
include h

theorem PortsInv.setPort {p : Port} {x : PortState} (hx : PortInv x) : PortsInv (s.setPort p x) := fun q => by
  rw [State.setPort_port]
  split
  · exact hx
  · exact h q

theorem PortsInv.reply {p : Port} (hidle : (s.port p).slot = .idle) (tag : Tag) (st : Status) (body : List Byte) :
    PortsInv (s.reply p tag st body) :=
  h.setPort ((h p).passToDone hidle tag st body)

/-- A reply after an operation that only let records arrive, which leaves the slot IDLE. -/
theorem PortsInv.reply_of_arrivals {u : State} (ha : s.OnlyArrivals u) {p : Port} (hidle : (s.port p).slot = .idle)
    (tag : Tag) (st : Status) (body : List Byte) : PortsInv (u.reply p tag st body) := by
  obtain ⟨-, hslot, -⟩ := ha.keeps p
  exact (h.of_arrivals ha).reply (hslot.trans hidle) tag st body

/-- A reply after a change of the port's own state that leaves the slot IDLE. -/
theorem PortsInv.setPort_reply {p : Port} {x : PortState} (hx : PortInv x) (hidle : x.slot = .idle) (tag : Tag)
    (st : Status) (body : List Byte) : PortsInv ((s.setPort p x).reply p tag st body) :=
  (h.setPort hx).reply (by rwa [State.setPort_port_self]) tag st body

theorem PortsInv.onlyFrame (t : Nat) (p : Port) : PortsInv (s.onlyFrame t p) :=
  PortsInv.setPort (s := s.advanceTo t) h ((h p).afterFrame _)

/-- A frame keeps the invariant if what it asks of an IDLE slot keeps it. -/
theorem PortsInv.takeFrame (t : Nat) (p : Port) (act : State → State)
    (hact : ∀ v, PortsInv v → (v.port p).slot = .idle → PortsInv (act v)) : PortsInv (s.takeFrame t p act) :=
  State.takeFrame_ind s t p act (PortsInv.setPort (s := s.advanceTo t) h { h p with }) (h.onlyFrame t p) fun htakes =>
    hact _ (h.onlyFrame t p) (by simpa using htakes.idle)

/-- A request keeps the invariant if what it does once admitted, from an IDLE slot, keeps it. -/
theorem PortsInv.request {α : Type} (t : Nat) (p : Port) (tag rsv : Tag) (needs : Needs) (args : Option α)
    (act : α → State → State)
    (hact : ∀ (a : α) (v : State), args = some a → PortsInv v → (v.port p).slot = .idle →
      (needs.session = true → (v.port p).isOpen = true) → PortsInv (act a v)) :
    PortsInv (s.takeFrame t p fun v => v.admission p tag rsv needs args act) :=
  h.takeFrame t p _ fun v hv hidle =>
    State.admit_ind v p tag rsv needs args act (fun _ => hv.reply hidle _ _ _) fun a ha hopen _ _ =>
      hact a v ha hv hidle hopen

/-! ### Long requests and completions -/

/-- A long request that is not CLOSE_SESSION takes the slot of an OPEN port, and its job changes no port (R55, R141). -/
theorem PortsInv.postLong {p : Port} (hopen : (s.port p).isOpen = true) {r : LongRequest} (hr : r ≠ .closeSession)
    (tag : Tag) (j : PortJob) : PortsInv ((s.beginLong p r tag).postPortJob p j) :=
  h.setPort ((h p).beginLong hopen hr tag)

theorem PortsInv.finishLong (p : Port) {r : LongRequest} (hr : r ≠ .closeSession) (st : Status) (body : List Byte) :
    PortsInv (s.finishLong p r st body) := by
  rw [State.finishLong_eq]
  exact h.setPort ((h p).completed hr st body)

theorem PortsInv.insert (p : Port) (f : EntryFields) : PortsInv (s.insert p f) := by
  unfold State.insert
  split
  · exact h.finishLong p (by decide) _ _
  · split
    · exact h.finishLong p (by decide) _ _
    · refine PortsInv.finishLong ?_ p (by decide) _ _
      exact h

theorem PortsInv.deleteEntry (p : Port) (id : EntryId) : PortsInv (s.deleteEntry p id) := by
  unfold State.deleteEntry
  split
  · exact h.finishLong p (by decide) _ _
  · rename_i e _
    have hremoved : PortsInv ((s.setSlot id none).endPulseOf id e) := by
      unfold State.endPulseOf
      split
      · exact h
      · exact h
    split
    · exact hremoved.finishLong p (by decide) _ _
    · exact h.finishLong p (by decide) _ _

theorem PortsInv.clearLine (p : Port) (l : Line) : PortsInv (s.clearLine p l) := by
  refine PortsInv.finishLong ?_ p (by decide) _ _
  split
  · exact h
  · exact h

theorem PortsInv.releaseLine (p : Port) (l : Line) : PortsInv (s.releaseLine p l) :=
  (h.of_arrivals (State.OnlyArrivals.refl s).then_setSlots.then_handOver).finishLong p (by decide) _ _

/-- The port torn down is CLOSED and IDLE at once, and to the others records arrive (R115, R121, R122). -/
theorem PortsInv.finishTeardown (p : Port) : PortsInv (s.finishTeardown p) := by
  have hgranted : PortsInv ((s.ownedLines p).foldl State.handOver s) :=
    h.of_arrivals (.foldl _ (fun v _ => (State.OnlyArrivals.refl v).then_handOver) _ _)
  unfold State.finishTeardown
  split
  · intro q
    by_cases hqp : q = p
    · subst hqp
      rw [State.setPort_port_self, State.postPeer_port, if_neg fun hpeer => hpeer.1 rfl, State.setPort_port_self]
      exact (hgranted q).tornDown _
    · rw [State.setPort_port_ne _ _ hqp, State.postPeer_port, State.setPort_port_ne _ _ hqp]
      split
      · exact (hgranted q).arrive _
      · exact hgranted q
  · exact h

theorem PortsInv.removeSpent (id : EntryId) (seq : Count32) : PortsInv (s.removeSpent id seq) := by
  unfold State.removeSpent
  split
  · split
    · exact h
    · exact h
  · exact h

/-- The engine's own work changes no port. -/
theorem PortsInv.completeJob {effect : State → State} (heffect : ∀ v, PortsInv v → PortsInv (effect v)) :
    PortsInv (s.completeJob effect) :=
  heffect s.served h

/-! ### Sessions -/

theorem PortsInv.beginTeardown (p : Port) : PortsInv (s.beginTeardown p) := by
  rw [State.beginTeardown_eq]
  exact h

theorem PortsInv.closeSession {p : Port} (hopen : (s.port p).isOpen = true) (tag : Tag) :
    PortsInv (s.closeSession p tag) := by
  obtain ⟨limit, start, hsession⟩ := (PortState.isOpen_eq_true _).1 hopen
  rw [State.closeSession_eq hsession]
  refine PortsInv.beginTeardown (h.setPort ?_) p
  exact (portInv_iff _).2 ⟨.close _ _ _, (h p).watches, (h p).quota⟩

theorem PortsInv.silenceTeardown {p : Port} (hdue : s.silenceDue p = true) : PortsInv (s.silenceTeardown p) := by
  obtain ⟨limit, start, hsession, -⟩ := (State.silenceDue_eq_true _ _).1 hdue
  rw [State.silenceTeardown_eq hsession]
  exact PortsInv.beginTeardown (h.setPort ((h p).takeSlot hsession .silence)) p

theorem PortsInv.openSession {p : Port} (hidle : (s.port p).slot = .idle) (tag : Tag) (limit : Nat) :
    PortsInv (s.openSession p tag limit) := by
  have hstep := (h p).inStep
  rw [hidle] at hstep
  have hopened : PortInv
      { s.port p with
        session := .opened limit s.now, epoch := nextEpoch (s.port p).epoch, mask := EventMask.atOpen
        interval := 0 } := by
    refine (portInv_iff _).2 ⟨?_, (h p).watches, (h p).quota⟩
    change Slot.InStep _ (s.port p).slot _
    rw [hidle]
    exact hstep.openSession
  refine (h.setPort hopened).reply_of_arrivals (State.OnlyArrivals.refl _).then_post ?_ _ _ _
  rw [State.setPort_port_self]
  exact hidle

end

/-! ### Every command -/

theorem AttentionArgs.watermark_of_parse {body : List Byte} {a : AttentionArgs} (h : parseAttention body = some a) :
    1 ≤ a.watermark ∧ a.watermark ≤ 31 := by
  unfold parseAttention at h
  split at h
  · simp only [Option.bind_eq_bind, Option.bind_eq_some_iff, inRange_eq_some] at h
    obtain ⟨_, _, _, _, _, _, w, ⟨hrange, rfl⟩, ha⟩ := h
    cases ha
    exact hrange
  · cases h

/-- Every command keeps the ports' invariant. -/
theorem exec_portsInv (i : Instr) (s u : State) (hs : PortsInv s) (h : exec i s = .next u) : PortsInv u := by
  cases hi : isInputOrTimerEvent i with
  | true => exact hs.of_arrivals (exec_onlyArrivals i s u hi h)
  | false =>
    have hnow : ∀ t, PortsInv (s.advanceTo t) := fun _ => hs
    cases i with
    | mark | indexEdge | unselectedTransition | conditionerHoldBegins | conditionerHoldAbandoned | noMarkLimit
    | lateTimeout | phaseRise | pulseTimerExpiry | holdAssertion | holdDeassertion => cases hi
    | reset t mark index hold =>
      cases h
      intro p
      change PortInv (PerPort.get (PerPort.mapPort _ _) p)
      rw [PerPort.get_mapPort, State.resetAt_port]
      exact { PortInv.atReset with }
    | transactionStart t p =>
      cases h
      split
      · exact (hnow t).setPort { hs p with }
      · exact hnow t
    | frameError t p bytes =>
      cases h
      have hended : ∀ n, PortsInv ((s.advanceTo t).endTransaction p n) := fun n => (hnow t).setPort { hs p with }
      split
      · exact hended _
      · rename_i hidle _
        exact (hended _).reply (by rw [State.endTransaction, State.setPort_port_self]; exact hidle) _ _ _
      · exact hended _
    | nop t p =>
      cases h
      exact hs.takeFrame t p id fun _ hv _ => hv
    | unknownRequestCode t p tag rsv code body =>
      cases h
      exact hs.takeFrame t p _ fun _ hv hidle => hv.reply hidle _ _ _
    | openSession t p tag rsv body =>
      cases h
      refine hs.request t p _ _ _ _ _ fun limit v _ hv hidle _ => ?_
      split
      · exact hv.openSession hidle tag limit
      · exact hv.reply hidle _ _ _
    | closeSession t p tag rsv body =>
      cases h
      exact hs.request t p _ _ _ _ _ fun _ v _ hv _ hopen => hv.closeSession (hopen rfl) tag
    | requestGrant t p tag rsv body =>
      cases h
      refine hs.request t p _ _ _ _ _ fun _ v _ hv hidle _ => ?_
      split
      · exact PortsInv.reply (s := v.setGrant _) hv hidle _ _ _
      · exact hv.reply hidle _ _ _
    | releaseGrant t p tag rsv body =>
      cases h
      refine hs.request t p _ _ _ _ _ fun _ v _ hv hidle _ => ?_
      split
      · exact PortsInv.reply (s := v.setGrant _) hv hidle _ _ _
      · exact hv.reply hidle _ _ _
    | setQuota t p tag rsv body =>
      cases h
      refine hs.request t p _ _ _ _ _ fun a v ha hv hidle _ => ?_
      obtain ⟨hquota, -⟩ := (parseSetQuota_eq_some body a.1 a.2).1 ha
      have hset : PortInv { v.port a.1 with quota := a.2 } := { hv a.1 with quota := hquota }
      refine (hv.setPort hset).reply ?_ _ _ _
      rw [State.setPort_port]
      split
      · rename_i hport
        rw [hport]
        exact hidle
      · exact hidle
    | setTracker t p tag rsv body =>
      cases h
      exact hs.request t p _ _ _ _ _ fun _ v _ hv hidle _ =>
        PortsInv.reply (s := State.setIndexChannel _ _) hv hidle _ _ _
    | startTracker t p tag rsv body =>
      cases h
      exact hs.request t p _ _ _ _ _ fun _ v _ hv hidle _ =>
        hv.reply_of_arrivals (State.OnlyArrivals.refl v).then_setTracker.then_postState hidle _ _ _
    | stopTracker t p tag rsv body =>
      cases h
      exact hs.request t p _ _ _ _ _ fun _ v _ hv hidle _ =>
        hv.reply_of_arrivals (.ite (.refl v) (State.OnlyArrivals.refl v).then_stopTracker) hidle _ _ _
    | claimLine t p tag rsv body =>
      cases h
      exact hs.request t p _ _ _ _ _ fun a v _ hv hidle _ =>
        PortsInv.reply (s := v.setLine _ _) hv hidle _ _ _
    | releaseLine t p tag rsv body =>
      cases h
      refine hs.request t p _ _ _ _ _ fun l v _ hv hidle hopen => ?_
      split_ifs
      · exact PortsInv.postLong (s := v.setLine _ _) hv (hopen rfl) (by decide) _ _
      · exact PortsInv.reply (s := v.setLine _ _) hv hidle _ _ _
      · exact hv.reply hidle _ _ _
    | setLineMode t p tag rsv body =>
      cases h
      refine hs.request t p _ _ _ _ _ fun a v _ hv hidle _ => ?_
      split
      · exact PortsInv.reply (s := v.setLine _ _) hv hidle _ _ _
      · exact hv.reply hidle _ _ _
    | insertEntry t p tag rsv body | clearLineEntries t p tag rsv body =>
      cases h
      refine hs.request t p _ _ _ _ _ fun _ v _ hv hidle hopen => ?_
      split
      · exact hv.postLong (hopen rfl) (by decide) _ _
      · exact hv.reply hidle _ _ _
    | deleteEntry t p tag rsv body =>
      cases h
      exact hs.request t p _ _ _ _ _ fun _ v _ hv _ hopen => hv.postLong (hopen rfl) (by decide) _ _
    | readEntry t p tag rsv body =>
      cases h
      refine hs.request t p _ _ _ _ _ fun _ v _ hv hidle _ => ?_
      split
      · exact hv.reply hidle _ _ _
      · split
        · exact hv.reply hidle _ _ _
        · exact hv.reply hidle _ _ _
    | readSession t p tag rsv body | readTracker t p tag rsv body | readHistory t p tag rsv body
    | readLines t p tag rsv body | listEntries t p tag rsv body =>
      cases h
      exact hs.request t p _ _ _ _ _ fun _ v _ hv hidle _ => hv.reply hidle _ _ _
    | readEvents t p tag rsv body =>
      cases h
      refine hs.request t p _ _ _ _ _ fun n v _ hv hidle _ => hv.setPort_reply ?_ ?_ _ _ _
      · exact (portInv_iff _).2 ⟨(hv p).inStep, (hv p).watches.removeOldest n, (hv p).quota⟩
      · exact hidle
    | setEventMask t p tag rsv body =>
      cases h
      refine hs.request t p _ _ _ _ _ fun _ v _ hv hidle _ => hv.setPort_reply ?_ ?_ _ _ _
      · exact { hv p with }
      · exact hidle
    | setAttention t p tag rsv body =>
      cases h
      refine hs.request t p _ _ _ _ _ fun a v ha hv hidle _ => hv.setPort_reply ?_ ?_ _ _ _
      · exact (portInv_iff _).2
          ⟨(hv p).inStep, (hv p).watches.setAttention a (AttentionArgs.watermark_of_parse ha), (hv p).quota⟩
      · exact hidle
    | ackAttention t p tag rsv body =>
      cases h
      refine hs.request t p _ _ _ _ _ fun _ v _ hv hidle _ => ?_
      have hreplied := hv.reply hidle tag .ok
      exact (hreplied _).setPort { hreplied _ p with }
    | silenceExpiry t p =>
      cases h
      split
      · exact (hnow t).silenceTeardown ‹_›
      · exact hnow t
    | insertionCompletes t =>
      cases h
      split
      · exact (hnow t).completeJob fun _ hv => hv.insert _ _
      · exact hnow t
    | entryDeletionCompletes t =>
      cases h
      split
      · exact (hnow t).completeJob fun _ hv => hv.deleteEntry _ _
      · exact hnow t
    | lineClearCompletes t =>
      cases h
      split
      · exact (hnow t).completeJob fun _ hv => hv.clearLine _ _
      · exact hnow t
    | releaseDeletionCompletes t =>
      cases h
      split
      · exact (hnow t).completeJob fun _ hv => hv.releaseLine _ _
      · exact hnow t
    | teardownSweepCompletes t =>
      cases h
      split
      · exact (hnow t).completeJob fun v hv => PortsInv.finishTeardown (s := v.removeEntries _) hv _
      · exact hnow t
    | spentRemovalCompletes t =>
      cases h
      split
      · exact (hnow t).completeJob fun _ hv => hv.removeSpent _ _
      · exact hnow t

/-- Settles O59: every command keeps the invariant, and an idle tick changes no port. -/
theorem everyStepKeepsThePortsInvariant : Obligations.EveryStepKeepsThePortsInvariant := by
  intro s u hs hstep
  unfold step at hstep
  split at hstep
  case h_1 c rest _ => exact exec_portsInv c (s.setPending rest) u hs hstep
  case h_2 =>
    cases hstep
    exact hs

end Sys2Proof.Machine
end

section
/-! OPEN_SESSION, the two requests for the grant, and SET_QUOTA once admitted. -/

namespace Sys2Proof.Machine

/-! ### OPEN_SESSION -/

/-- OPEN_SESSION needs no OPEN session, so it acts at every port that takes requests (R114, R139). -/
theorem exec_openSession_of_takes {s : State} {p : Port} (h : s.TakesRequests p) (t : Nat) (tag : Tag) {limit : Nat}
    (hrange : 10 ≤ limit ∧ limit ≤ 60000) :
    exec (.openSession t p tag 0 (leBytes 2 limit)) s = .next
      (if (s.port p).isClosed then (s.onlyFrame t p).openSession p tag limit else s.answers t p tag .already []) := by
  have hbody : parseOpenSession (leBytes 2 limit) = some limit := (parseOpenSession_eq_some _ _).2 ⟨hrange, rfl⟩
  simp only [exec, execOpenSession]
  rw [hbody, State.takeFrame_idle _ _ _ _ h, State.admit_ok _ _ _ { session := false } _ _ nofun nofun rfl,
    State.onlyFrame_port_self, PortState.afterFrame_isClosed, State.onlyFrame_reply]

/-- What an open makes of the ports: the opener's session, epoch, mask and reply, and PEER to the other OPEN ones (R113
to R115). -/
theorem State.openSession_port (s : State) (p q : Port) (tag : Tag) (limit : Nat) :
    (s.openSession p tag limit).port q =
      if q = p then
        { s.port p with
          session := .opened limit s.now
          epoch := nextEpoch (s.port p).epoch
          mask := EventMask.atOpen
          interval := 0 }.replied tag .ok
            (nextEpoch (s.port p).epoch :: (leBytes 2 Config.partCode ++ [BitVec.ofNat 8 Config.revision]))
      else if (s.port q).isOpen then (s.port q).arrive (s.stamp (.peer p none))
      else s.port q := by
  unfold State.openSession
  rw [State.reply_eq]
  by_cases hqp : q = p
  · subst hqp
    rw [State.setPort_port_self, State.postPeer_port, if_neg fun hpeer => hpeer.1 rfl, State.setPort_port_self,
      if_pos rfl]
  · rw [State.setPort_port_ne _ _ hqp, State.postPeer_port, State.setPort_port_ne _ _ hqp, if_neg hqp]
    by_cases hopen : (s.port q).isOpen = true
    · rw [if_pos ⟨hqp, hopen⟩, if_pos hopen]
      rfl
    · rw [if_neg fun hpeer => hopen hpeer.2, if_neg hopen]

/-- Settles O13: the frame and the open change the opener alone, and the other ports only hear of it. -/
theorem openSessionOpensAClosedSession : Obligations.OpenSessionOpensAClosedSession := by
  intro t p tag limit s htakes hmin hmax
  rw [exec_openSession_of_takes htakes t tag ⟨hmin, hmax⟩]
  refine ⟨fun hclosed => ?_, fun hopen => ?_⟩
  · rw [if_pos ((PortState.isClosed_eq_true _).2 hclosed)]
    refine congrArg Host.Outcome.next
      (State.ext_fields _ _ rfl rfl rfl rfl rfl rfl rfl rfl rfl rfl rfl rfl rfl rfl fun q => ?_)
    refine Eq.trans ?_ (PerPort.get_mapPort _ _ q).symm
    rw [State.openSession_port]
    by_cases hqp : q = p
    · subst hqp
      rw [if_pos rfl, if_pos rfl, State.onlyFrame_port_self]
      rfl
    · rw [if_neg hqp, if_neg hqp, State.onlyFrame_port, if_neg (Ne.symm hqp)]
      rfl
  · rw [if_neg (by rw [PortState.not_closed_of_open _ hopen]; nofun)]

/-! ### The grant -/

/-- REQUEST_GRANT of a free grant (R124). -/
theorem exec_requestGrant_of_free {s : State} {p : Port} (h : s.Admits p) (hfree : s.grant = none) (t : Nat)
    (tag : Tag) :
    exec (.requestGrant t p tag 0 []) s = .next
      { s.answers t p tag .ok [BitVec.ofNat 8 (portCode p)] with grant := some p } := by
  simp only [exec, execRequestGrant, parseNothing]
  rw [State.request_of_admits h t tag {} () _ nofun rfl, State.onlyFrame_grant, hfree, ← State.onlyFrame_reply]
  rfl

/-- REQUEST_GRANT of a grant that a port holds (R124). -/
theorem exec_requestGrant_of_held {s : State} {p q : Port} (h : s.Admits p) (hheld : s.grant = some q) (t : Nat)
    (tag : Tag) :
    exec (.requestGrant t p tag 0 []) s = .next
      (s.answers t p tag (if q = p then .already else .grantHeld) [BitVec.ofNat 8 (portCode q)]) := by
  simp only [exec, execRequestGrant, parseNothing]
  rw [State.request_of_admits h t tag {} () _ nofun rfl, State.onlyFrame_grant, hheld, ← State.onlyFrame_reply]
  rfl

/-- RELEASE_GRANT from the holder and from any other port (R125). -/
theorem exec_releaseGrant_of_admits {s : State} {p : Port} (h : s.Admits p) (t : Nat) (tag : Tag) :
    exec (.releaseGrant t p tag 0 []) s = .next
      (if s.grant = some p then { s.answers t p tag .ok [] with grant := none }
       else s.answers t p tag .notGranted []) := by
  simp only [← State.onlyFrame_reply]
  exact congrArg Host.Outcome.next (State.request_of_admits h t tag {} () _ nofun rfl)

/-- Settles O16: each state of the grant, asked for and given back. -/
theorem grantIsTakenWhenFreeAndGivenBack : Obligations.GrantIsTakenWhenFreeAndGivenBack := by
  intro t p tag s h
  rw [exec_releaseGrant_of_admits h]
  refine ⟨fun hfree => exec_requestGrant_of_free h hfree t tag, fun hheld => ?_, fun q hheld hqp => ?_,
    fun hheld => by rw [if_pos hheld], fun hnot => by rw [if_neg hnot]⟩
  · rw [exec_requestGrant_of_held h hheld, if_pos rfl]
  · rw [exec_requestGrant_of_held h hheld, if_neg hqp]

/-! ### Quotas -/

/-- SET_QUOTA from the holder of the grant, up to the two changes of ports (R126). -/
theorem exec_setQuota_of_admits {s : State} {p : Port} (h : s.Admits p) (hgrant : s.grant = some p)
    (t : Nat) (q : Port) (tag : Tag) {n : Nat} (hn : n ≤ 128) :
    exec (.setQuota t p tag 0 [BitVec.ofNat 8 (portCode q), BitVec.ofNat 8 n]) s = .next
      (((s.onlyFrame t p).setPort q { (s.onlyFrame t p).port q with quota := n }).reply p tag .ok
        [BitVec.ofNat 8 (portCode q), BitVec.ofNat 8 n,
         BitVec.ofNat 8 (s.slotsWith fun e => decide (e.owner = q))]) := by
  have hbody : parseSetQuota [BitVec.ofNat 8 (portCode q), BitVec.ofNat 8 n] = some (q, n) :=
    (parseSetQuota_eq_some _ _ _).2 ⟨hn, rfl⟩
  simp only [exec, execSetQuota, hbody]
  rw [State.request_of_admits h t tag { grant := true } (q, n) _ (fun _ => hgrant) rfl, State.entryCount_eq]
  rfl

/-- Settles O17: the frame and the reply are the requester's, the quota the named port's, which may be the same. -/
theorem setQuotaSetsTheNamedPortsQuota : Obligations.SetQuotaSetsTheNamedPortsQuota := by
  intro t p q tag n s h hgrant hn
  rw [exec_setQuota_of_admits h hgrant t q tag hn, State.reply_eq]
  refine congrArg Host.Outcome.next
    (State.ext_fields _ _ rfl rfl rfl rfl rfl rfl rfl rfl rfl rfl rfl rfl rfl rfl fun r => ?_)
  refine Eq.trans ?_ (PerPort.get_mapPort _ _ r).symm
  simp only [State.setPort_port, State.onlyFrame_port, State.ports_get]
  by_cases hrp : r = p
  · subst hrp
    by_cases hrq : r = q
    · subst hrq
      simp only [if_true]
      rfl
    · simp only [if_true, if_neg hrq, if_neg (Ne.symm hrq)]
      rfl
  · by_cases hrq : r = q
    · subst hrq
      simp only [if_true, if_neg hrp, if_neg (Ne.symm hrp)]
    · simp only [if_neg hrp, if_neg (Ne.symm hrp), if_neg hrq, if_neg (Ne.symm hrq)]

end Sys2Proof.Machine
end

section
/-! Bytes of a transaction and the frames they make: the checks of R130, the fields of Table 9-1, and what reads back
from the encoder. -/

namespace Sys2Proof.Machine

/-! ### Bits and bytes (R128) -/

/-- The bits of a byte, most significant first. -/
def bitsOfByte (b : Byte) : List Bool :=
  [b.getLsbD 7, b.getLsbD 6, b.getLsbD 5, b.getLsbD 4, b.getLsbD 3, b.getLsbD 2, b.getLsbD 1, b.getLsbD 0]

theorem bytesOfBits_of_short {bits : List Bool} (h : bits.length < 8) : bytesOfBits bits = [] := by
  unfold bytesOfBits
  split
  · simp only [List.length_cons] at h
    omega
  · rfl

/-- A number below 256 is the sum of its eight bits. -/
theorem sum_testBits {n : Nat} (h : n < 256) :
    128 * (n.testBit 7).toNat + 64 * (n.testBit 6).toNat + 32 * (n.testBit 5).toNat + 16 * (n.testBit 4).toNat +
      8 * (n.testBit 3).toNat + 4 * (n.testBit 2).toNat + 2 * (n.testBit 1).toNat + (n.testBit 0).toNat = n := by
  simp only [Nat.toNat_testBit]
  omega

theorem bytesOfBits_byte (b : Byte) (rest : List Bool) :
    bytesOfBits (bitsOfByte b ++ rest) = b :: bytesOfBits rest := by
  have hbyte : BitVec.ofNat 8 b.toNat = b := by rw [BitVec.ofNat_toNat, BitVec.setWidth_eq]
  rw [← sum_testBits b.isLt] at hbyte
  exact congrArg (· :: bytesOfBits rest) hbyte

/-- Bits that complete no byte are ignored. -/
theorem bytesOfBits_flatMap (bytes : List Byte) {bits : List Bool} (h : bits.length < 8) :
    bytesOfBits (bytes.flatMap bitsOfByte ++ bits) = bytes := by
  induction bytes with
  | nil => exact bytesOfBits_of_short h
  | cons b bytes ih => rw [List.flatMap_cons, List.append_assoc, bytesOfBits_byte, ih]

/-! ### The checks of R130 -/

theorem frameValid_eq_true (bytes : List Byte) :
    frameValid bytes = true ↔
      64 ≤ bytes.length ∧ (byteAt bytes 2).toNat ≤ 59 ∧
        crc8 (bytes.take (3 + (byteAt bytes 2).toNat)) = byteAt bytes (3 + (byteAt bytes 2).toNat) := by
  simp [frameValid, and_assoc]

/-- The three faults of a frame are exactly what the checks refuse. -/
theorem frameValid_eq_false (bytes : List Byte) :
    frameValid bytes = false ↔
      bytes.length < 64 ∨ 59 < (byteAt bytes 2).toNat ∨
        crc8 (bytes.take (3 + (byteAt bytes 2).toNat)) ≠ byteAt bytes (3 + (byteAt bytes 2).toNat) := by
  rw [← Bool.not_eq_true, frameValid_eq_true]
  simp only [not_and_or, not_le, ne_eq]

theorem decodeTransaction_of_valid (t : Nat) (p : Port) {bytes : List Byte} (h : frameValid bytes = true) :
    decodeTransaction t p bytes =
      decodeRequest t p (frameTag (byteAt bytes 0)) (frameReserved (byteAt bytes 0)) (byteAt bytes 1)
        ((bytes.drop 3).take (byteAt bytes 2).toNat) :=
  if_pos h

theorem decodeTransaction_of_invalid (t : Nat) (p : Port) {bytes : List Byte} (h : frameValid bytes = false) :
    decodeTransaction t p bytes = .frameError t p (bytes.take 64) :=
  if_neg (by rw [h]; nofun)

/-! ### Bytes beyond the 64th (R129) -/

theorem byteAt_append {bytes : List Byte} {k : Nat} (h : k < bytes.length) (extra : List Byte) :
    byteAt (bytes ++ extra) k = byteAt bytes k := by
  exact List.getD_append _ _ _ _ h

theorem frameValid_append {bytes : List Byte} (h : 64 ≤ bytes.length) (extra : List Byte) :
    frameValid (bytes ++ extra) = frameValid bytes := by
  rw [Bool.eq_iff_iff, frameValid_eq_true, frameValid_eq_true, byteAt_append (by omega) extra]
  have hlength : 64 ≤ (bytes ++ extra).length := by rw [List.length_append]; omega
  refine and_congr (iff_of_true hlength h) (and_congr_right fun hlen => ?_)
  rw [byteAt_append (by omega), List.take_append_of_le_length (by omega)]

theorem decodeTransaction_append (t : Nat) (p : Port) {bytes : List Byte} (h : 64 ≤ bytes.length) (extra : List Byte) :
    decodeTransaction t p (bytes ++ extra) = decodeTransaction t p bytes := by
  have hsame := frameValid_append h extra
  cases hvalid : frameValid bytes with
  | false =>
    rw [decodeTransaction_of_invalid t p hvalid, decodeTransaction_of_invalid t p (hsame.trans hvalid),
      List.take_append_of_le_length h]
  | true =>
    obtain ⟨-, hlen, -⟩ := (frameValid_eq_true _).1 hvalid
    rw [decodeTransaction_of_valid t p hvalid, decodeTransaction_of_valid t p (hsame.trans hvalid),
      byteAt_append (by omega), byteAt_append (by omega), byteAt_append (by omega), List.drop_append_of_le_length (by omega),
      List.take_append_of_le_length (by rw [List.length_drop]; omega)]

/-- Settles O5: the three faults decide between the two commands, and bytes past the 64th and bits past the last whole
byte are not read. -/
theorem frameChecksDecideTheCommand : Obligations.FrameChecksDecideTheCommand := by
  intro t p bytes
  refine ⟨fun hbad => ?_, fun hgood => ?_, fun extra h => decodeTransaction_append t p h extra,
    fun bits h => bytesOfBits_flatMap bytes h⟩
  · exact decodeTransaction_of_invalid t p ((frameValid_eq_false _).2 hbad)
  · exact decodeTransaction_of_valid t p (by rw [← Bool.not_eq_false, frameValid_eq_false]; exact hgood)

/-! ### The frame of the encoder (Table 9-1) -/

theorem frameTag_firstByte (tag rsv : Tag) : frameTag (firstByte tag rsv) = tag :=
  BitVec.extractLsb'_append_eq_right

theorem frameReserved_firstByte (tag rsv : Tag) : frameReserved (firstByte tag rsv) = rsv :=
  BitVec.extractLsb'_append_eq_left

theorem padded_length {bytes : List Byte} (h : bytes.length ≤ 64) : (padded bytes).length = 64 := by
  rw [padded, List.length_append, List.length_replicate]
  omega

/-- An encoded frame, byte by byte: head, body, CRC, and zeros. -/
theorem encodeFrame_eq (tag rsv : Tag) (code : Byte) (body : List Byte) :
    encodeFrame tag rsv code body =
      firstByte tag rsv :: code :: BitVec.ofNat 8 body.length ::
        (body ++ crc8 (firstByte tag rsv :: code :: BitVec.ofNat 8 body.length :: body) ::
          List.replicate (60 - body.length) 0) := by
  simp [encodeFrame, padded]

/-- The length byte of an encoded frame. -/
theorem encodeFrame_bodyLength (tag rsv : Tag) (code : Byte) {body : List Byte} (h : body.length ≤ 59) :
    (byteAt (encodeFrame tag rsv code body) 2).toNat = body.length := by
  rw [encodeFrame_eq]
  exact toNat_ofNat_byte (by omega)

theorem frameValid_encodeFrame (tag rsv : Tag) (code : Byte) {body : List Byte} (h : body.length ≤ 59) :
    frameValid (encodeFrame tag rsv code body) = true := by
  rw [frameValid_eq_true, encodeFrame_bodyLength tag rsv code h]
  refine ⟨?_, h, ?_⟩
  · exact (padded_length (by simp; omega)).ge
  · rw [encodeFrame_eq]
    simp [byteAt, Nat.add_comm 3]

/-- A frame reads back with every tag, reserved bit, code and body. -/
theorem decodeTransaction_encodeFrame (t : Nat) (p : Port) (tag rsv : Tag) (code : Byte) {body : List Byte}
    (h : body.length ≤ 59) :
    decodeTransaction t p (encodeFrame tag rsv code body) = decodeRequest t p tag rsv code body := by
  have hbody : ((encodeFrame tag rsv code body).drop 3).take body.length = body := by
    rw [encodeFrame_eq]
    simp
  rw [decodeTransaction_of_valid t p (frameValid_encodeFrame tag rsv code h), encodeFrame_bodyLength tag rsv code h,
    hbody, encodeFrame_eq]
  simp only [byteAt, List.getD_cons_zero, List.getD_cons_succ, frameTag_firstByte, frameReserved_firstByte]

/-! ### Commands and their frames (Table 9-3) -/

/-- A transaction's end is a frame error, a NOP or a request. -/
theorem transactionEnd_cases {i : Instr} {t : Nat} {p : Port} (h : i.transactionEnd = some (t, p)) :
    (∃ bytes, i = .frameError t p bytes) ∨ i = .nop t p ∨
      ∃ f, i.requestFrame = some f ∧ f.tick = t ∧ f.port = p := by
  unfold Instr.transactionEnd at h
  split at h
  · cases h
    exact .inl ⟨_, rfl⟩
  · cases h
    exact .inr (.inl rfl)
  · rename_i f _ _ hf
    cases h
    exact .inr (.inr ⟨f, hf, rfl, rfl⟩)
  · cases h

/-- What can be encoded ends a transaction. -/
theorem transactionEnd_of_encode {i : Instr} {bytes : List Byte} (h : encodeTransaction i = some bytes) :
    ∃ t p, i.transactionEnd = some (t, p) := by
  cases i <;> cases h <;> exact ⟨_, _, rfl⟩

/-- A request is encoded as the frame with its own fields. -/
theorem encodeTransaction_of_requestFrame {i : Instr} {f : RequestFrame} (h : i.requestFrame = some f) :
    encodeTransaction i = some (encodeFrame f.tag f.rsv (BitVec.ofNat 8 f.code) f.body) := by
  cases i <;> cases h
  case unknownRequestCode => simp [encodeTransaction]
  all_goals rfl

theorem bodyLength_of_requestFrame {i : Instr} {f : RequestFrame} (hwf : i.wf = true) (h : i.requestFrame = some f) :
    f.body.length ≤ 59 := by
  cases i <;> cases h
  case unknownRequestCode =>
    rw [Instr.wf, Bool.and_eq_true] at hwf
    exact of_decide_eq_true hwf.1
  all_goals exact of_decide_eq_true hwf

theorem decodeRequest_of_unknown (t : Nat) (p : Port) (tag rsv : Tag) {code : Byte} (body : List Byte)
    (h : code.toNat ∉ requestCodes) :
    decodeRequest t p tag rsv code body = .unknownRequestCode t p tag rsv code body := by
  unfold decodeRequest
  split
  case h_26 => rfl
  all_goals
    rename_i hcode
    exact absurd (by rw [hcode]; decide) h

/-- The codes of Table 9-3 name the requests. -/
theorem decodeRequest_of_requestFrame {i : Instr} {f : RequestFrame} (hwf : i.wf = true) (h : i.requestFrame = some f) :
    decodeRequest f.tick f.port f.tag f.rsv (BitVec.ofNat 8 f.code) f.body = i := by
  cases i <;> cases h
  case unknownRequestCode t p tag rsv code body =>
    rw [Instr.wf, Bool.and_eq_true] at hwf
    rw [BitVec.ofNat_toNat, BitVec.setWidth_eq]
    exact decodeRequest_of_unknown t p tag rsv body (by simpa using hwf.2)
  all_goals rfl

/-- Settles O6: by the three kinds of a transaction's end. -/
theorem encodedTransactionsReadBack : Obligations.EncodedTransactionsReadBack := by
  intro i bytes hwf hencode
  obtain ⟨t, p, hend⟩ := transactionEnd_of_encode hencode
  refine ⟨t, p, hend, ?_⟩
  obtain ⟨received, rfl⟩ | rfl | ⟨f, hf, rfl, rfl⟩ := transactionEnd_cases hend
  · cases hencode
    obtain ⟨hlength, hinvalid⟩ := (Bool.and_eq_true _ _).mp hwf
    rw [decodeTransaction_of_invalid t p ((Bool.not_eq_true' _).mp hinvalid),
      List.take_of_length_le (of_decide_eq_true hlength)]
  · cases hencode
    exact decodeTransaction_encodeFrame t p 0 0 0x00 (Nat.zero_le 59)
  · cases (encodeTransaction_of_requestFrame hf).symm.trans hencode
    rw [decodeTransaction_encodeFrame _ _ _ _ _ (bodyLength_of_requestFrame hwf hf),
      decodeRequest_of_requestFrame hwf hf]

end Sys2Proof.Machine
end

section
/-! What every command that ends a transaction makes of the part: the frame it takes, the first admission check it
fails, and the reply frame and data output of the transaction itself. -/

namespace Sys2Proof.Machine

/-! ### Admission (R139) -/

/-- The needs of Table 7-3 by the request's code. -/
def Needs.ofCode (code : Nat) : Needs :=
  { session := codeNeedsSession code, grant := codeNeedsGrant code, tracker := codeAllowsState code }

/-- A parser reads exactly the bodies of Table 9-2 for a code: those of its one length with values in range. -/
def ReadsBodies {α : Type} (parse : List Byte → Option α) (code : Nat) : Prop :=
  ∀ body, (parse body).isSome = true ↔ body.length = codeBodyLength code ∧ codeAcceptsValues code body = true

/-- A parser that judges the values and reads one length alone reads exactly the bodies of its code. -/
theorem ReadsBodies.of_length {α : Type} {parse : List Byte → Option α} {code : Nat}
    (hvalues : ∀ body, codeAcceptsValues code body = (parse body).isSome)
    (hlength : ∀ body a, parse body = some a → body.length = codeBodyLength code) : ReadsBodies parse code := by
  intro body
  rw [hvalues]
  refine ⟨fun h => ⟨?_, h⟩, And.right⟩
  obtain ⟨a, ha⟩ := Option.isSome_iff_exists.1 h
  exact hlength body a ha

/-- A request without arguments has the empty body alone. -/
theorem ReadsBodies.nothing {code : Nat} (hvalues : ∀ body, codeAcceptsValues code body = true)
    (hlength : codeBodyLength code = 0) : ReadsBodies parseNothing code := by
  intro body
  rw [hvalues, hlength, List.length_eq_zero_iff, ← parseNothing_eq_some, Option.isSome_iff_exists]
  exact ⟨fun ⟨_, h⟩ => ⟨h, rfl⟩, fun h => ⟨(), h.1⟩⟩

/-- One check: where it fails it gives both the status and the reply, and otherwise the checks after it decide. -/
theorem State.reply_of_check {c : Prop} [Decidable c] {failing st : Status} {rest : Option Status} {s next : State}
    {p : Port} {tag : Tag} (h : (if c then some failing else rest) = some st)
    (hrest : rest = some st → next = s.reply p tag st []) :
    (if c then s.reply p tag failing [] else next) = s.reply p tag st [] := by
  by_cases hc : c
  · rw [if_pos hc] at h ⊢
    cases h
    rfl
  · rw [if_neg hc] at h ⊢
    exact hrest h

/-- For a request of Table 9-3 the checks in the admission table's order are those that admission makes. -/
theorem State.admission_of_refusal {α : Type} {parse : List Byte → Option α} {f : RequestFrame}
    (hcode : ¬(f.code = 0 ∨ f.code ∉ requestCodes)) (hparse : ReadsBodies parse f.code) (act : α → State → State)
    {s : State} {st : Status} (h : s.refusal f = some st) :
    s.admission f.port f.tag f.rsv (Needs.ofCode f.code) (parse f.body) act = s.reply f.port f.tag st [] := by
  unfold State.refusal at h
  rw [if_neg hcode] at h
  refine State.reply_of_check h fun hgrant => State.reply_of_check hgrant fun hstate =>
    State.reply_of_check hstate fun hargs => ?_
  obtain ⟨hbad, hst⟩ := Option.ite_none_right_eq_some.1 hargs
  cases hst
  refine ite_eq_left_iff.2 fun hrsv => ?_
  have hunread : parse f.body = none := by
    rw [← Option.not_isSome_iff_eq_none, hparse f.body]
    rintro ⟨hlength, hvalues⟩
    obtain hrsv' | hlength' | hvalues' := hbad
    · exact hrsv hrsv'
    · exact hlength' hlength
    · exact Bool.noConfusion (hvalues.symm.trans hvalues')
  rw [hunread]

/-! ### Requests as frames (R128 to R133) -/

/-- A command is the request of a frame: it takes the frame, and from an IDLE slot the first check of R139 that fails
only gives its reply. -/
def IsRequest (i : Instr) (f : RequestFrame) : Prop :=
  ∃ act : State → State,
    (∀ s, exec i s = .next (s.takeFrame f.tick f.port act)) ∧
      ∀ s st, s.refusal f = some st → act s = s.reply f.port f.tag st []

/-- A request of Table 9-3: a frame, then admission by its code's needs and its body's parser. -/
theorem IsRequest.of_admission {α : Type} {i : Instr} {t : Nat} {p : Port} {tag rsv : Tag} {code : Nat}
    {body : List Byte} {parse : List Byte → Option α} {act : α → State → State}
    (hcode : ¬(code = 0 ∨ code ∉ requestCodes)) (hparse : ReadsBodies parse code)
    (hexec : ∀ s, exec i s = .next (s.takeFrame t p fun v =>
      v.admission p tag rsv (Needs.ofCode code) (parse body) act)) : IsRequest i ⟨t, p, tag, rsv, code, body⟩ :=
  ⟨_, hexec, fun _ _ h => State.admission_of_refusal (f := ⟨t, p, tag, rsv, code, body⟩) hcode hparse act h⟩

/-- An unknown code fails the first check in every state (R139 step 1). -/
theorem IsRequest.unknown (t : Nat) (p : Port) (tag rsv : Tag) {code : Byte} (body : List Byte)
    (h : code.toNat ∉ requestCodes) :
    IsRequest (.unknownRequestCode t p tag rsv code body) ⟨t, p, tag, rsv, code.toNat, body⟩ := by
  refine ⟨_, fun _ => rfl, fun s st hst => ?_⟩
  unfold State.refusal at hst
  rw [if_pos (.inr h)] at hst
  cases hst
  rfl

/-- Every request takes its frame, whatever its fields. -/
theorem exec_of_requestFrame {i : Instr} {f : RequestFrame} (h : i.requestFrame = some f) :
    ∃ act : State → State, ∀ s, exec i s = .next (s.takeFrame f.tick f.port act) := by
  cases i <;> cases h <;> exact ⟨_, fun _ => rfl⟩

/-- Every well-formed request is one of Table 9-3, with the needs and the body of its code, or has an unknown code. -/
theorem IsRequest.of_requestFrame {i : Instr} {f : RequestFrame} (hwf : i.wf = true)
    (h : i.requestFrame = some f) : IsRequest i f := by
  cases i <;> cases h
  case unknownRequestCode t p tag rsv code body =>
    rw [Instr.wf, Bool.and_eq_true] at hwf
    exact .unknown t p tag rsv body (by simpa using hwf.2)
  all_goals refine .of_admission (by decide) ?_ fun _ => rfl
  case closeSession | readSession | requestGrant | releaseGrant | startTracker | stopTracker | readTracker
      | readHistory | readLines =>
    exact .nothing (fun _ => rfl) rfl
  all_goals refine .of_length (fun _ => rfl) fun read _ hread => ?_
  case openSession => exact ((parseOpenSession_eq_some _ _).1 hread).2 ▸ rfl
  case setQuota => exact ((parseSetQuota_eq_some _ _ _).1 hread).2 ▸ rfl
  case setTracker => exact ((parseTrackerConfig_eq_some _ _).1 hread).2 ▸ rfl
  case claimLine => exact (parseClaim_eq_some _ _).1 hread ▸ rfl
  case releaseLine | clearLineEntries => exact (parseLineBody_eq_some _ _).1 hread ▸ rfl
  case setLineMode => exact (parseLineMode_eq_some _ _ _).1 hread ▸ rfl
  case insertEntry => exact ((parseEntry_eq_some _ _).1 hread).2 ▸ rfl
  case deleteEntry | readEntry | listEntries => exact (parseIdBody_eq_some _ _).1 hread ▸ rfl
  case readEvents => exact ((parseCount_eq_some _ _).1 hread).2 ▸ rfl
  case setEventMask => exact ((parseEventMask_eq_some _ _ _).1 hread).2 ▸ rfl
  case setAttention => exact ((parseAttention_eq_some _ _).1 hread).2 ▸ rfl
  case ackAttention => exact (parseAck_eq_some _ _).1 hread ▸ rfl

/-- The checks read nothing that the taking of the frame changes. -/
theorem State.refusal_onlyFrame (s : State) (f : RequestFrame) (t : Nat) :
    (s.onlyFrame t f.port).refusal f = s.refusal f := by
  unfold State.refusal
  rw [State.onlyFrame_port_self, PortState.afterFrame_isOpen]
  rfl

/-- Settles O12: the frame changes nothing that the checks read, and the first that fails only replies. -/
theorem admissionRefusesAtTheFirstFailingCheck : Obligations.AdmissionRefusesAtTheFirstFailingCheck := by
  intro i f s st hwf hf htakes hst
  obtain ⟨act, hexec, hrefused⟩ := IsRequest.of_requestFrame hwf hf
  rw [hexec, State.takeFrame_idle _ _ _ _ htakes, hrefused _ st ((s.refusal_onlyFrame f f.tick).trans hst),
    State.onlyFrame_reply]

/-- Settles O11: a WORKING slot discards whatever the frame asks. -/
theorem busyRequestIsDiscarded : Obligations.BusyRequestIsDiscarded := by
  intro i f s hf hworking hattached
  obtain ⟨act, hexec⟩ := exec_of_requestFrame hf
  rw [hexec, State.takeFrame_busy _ _ _ _ hworking hattached]

/-! ### NOP (R138) -/

/-- Settles O10: a NOP asks nothing, so every slot is left as the frame leaves it. -/
theorem nopOnlyGivesTheAliveNotice : Obligations.NopOnlyGivesTheAliveNotice := by
  refine ⟨fun _ _ _ _ _ => rfl, fun t p s hattached => ?_⟩
  have hframe : s.takeFrame t p id = s.onlyFrame t p := by
    rw [State.takeFrame_eq, if_neg hattached]
    exact ite_self _
  exact congrArg Host.Outcome.next hframe

/-! ### Frame errors (R131) -/

/-- The received tag is the tag field of the first byte, and 0 where there is none. -/
theorem receivedTag_eq (bytes : List Byte) : receivedTag bytes = (bytes.getD 0 0).extractLsb' 0 4 := by
  cases bytes <;> rfl

theorem exec_frameError_of_ignored {s : State} {p : Port} (h : (s.port p).transaction = .ignored) (t : Nat)
    (bytes : List Byte) :
    exec (.frameError t p bytes) s = .next ((s.advanceTo t).setPort p { s.port p with transaction := .none }) := by
  simp only [exec, execFrameError, State.advanceTo_port, h]
  rfl

theorem exec_frameError_of_takes {s : State} {p : Port} (h : s.TakesRequests p) (t : Nat) (bytes : List Byte) :
    exec (.frameError t p bytes) s = .next
      (((s.advanceTo t).endTransaction p (min 64 bytes.length)).reply p (receivedTag bytes) .frameReject []) := by
  simp only [exec, execFrameError, State.advanceTo_port, h.idle]
  cases htransaction : (s.port p).transaction with
  | ignored => exact absurd htransaction h.attached
  | none | inProgress captured => rfl

theorem exec_frameError_of_working {s : State} {p : Port} (hworking : (s.port p).slot ≠ .idle)
    (hattached : (s.port p).transaction ≠ .ignored) (t : Nat) (bytes : List Byte) :
    exec (.frameError t p bytes) s = .next ((s.advanceTo t).endTransaction p (min 64 bytes.length)) := by
  simp only [exec, execFrameError, State.advanceTo_port]

/-- Settles O9: the checks of the frame, and each state of the slot. -/
theorem frameErrorIsRejectedOrDiscarded : Obligations.FrameErrorIsRejectedOrDiscarded := by
  refine ⟨fun t p bytes hbad => ?_, fun t p bytes s htakes => ?_, fun t p bytes s hworking hattached => ?_⟩
  · exact decodeTransaction_of_invalid t p ((frameValid_eq_false _).2 hbad)
  · rw [exec_frameError_of_takes htakes, State.reply_eq, receivedTag_eq]
    simp [State.endTransaction, PortState.replied, State.setPort]
  · exact exec_frameError_of_working hworking hattached t bytes

/-! ### The reply frame (R137, Table 9-6) -/

/-- The five bytes before the body of a reply frame. -/
def PortState.replyHead (ps : PortState) : List Byte :=
  let (tag, st, status, epoch, body) := ps.reply.shown
  [BitVec.ofNat 8 (tag.toNat + 16 * st), status, epoch, ps.attention.latched.byte, BitVec.ofNat 8 body.length]

/-- The body of a reply frame. -/
def PortState.replyBody (ps : PortState) : List Byte := ps.reply.shown.2.2.2.2

/-- The first byte of a reply frame is its two fields side by side. -/
theorem replyCode_eq (st tag : Tag) : BitVec.ofNat 8 (tag.toNat + 16 * st.toNat) = st ++ tag := by
  apply BitVec.eq_of_toNat_eq
  rw [BitVec.toNat_append, BitVec.toNat_ofNat, Nat.shiftLeft_add_eq_or_of_lt (by omega) _ |>.symm]
  omega

theorem PortState.replyFrame_eq (ps : PortState) :
    ps.replyFrame = ps.replyHead ++ ps.replyBody ++ [crc8 (ps.replyHead ++ ps.replyBody)] ++
      List.replicate (58 - ps.replyBody.length) 0 := by
  simp [PortState.replyFrame, PortState.replyHead, PortState.replyBody, padded]

theorem PortState.replyFrame_length {ps : PortState} (h : ps.replyBody.length ≤ 58) : ps.replyFrame.length = 64 := by
  have hhead : ps.replyHead.length = 5 := rfl
  rw [PortState.replyFrame_eq]
  simp only [List.length_append, List.length_replicate, List.length_singleton, hhead]
  omega

/-- The head and body of Table 9-6 as the register stands. -/
theorem PortState.replyHead_body (ps : PortState) :
    match ps.reply with
    | .empty => ps.replyHead = [0, 0, 0, ps.attention.latched.byte, 0] ∧ ps.replyBody = []
    | .pending tag epoch => ps.replyHead = [1#4 ++ tag, 0, epoch, ps.attention.latched.byte, 0] ∧ ps.replyBody = []
    | .done tag st b epoch =>
      ps.replyHead = [2#4 ++ tag, st.code, epoch, ps.attention.latched.byte, BitVec.ofNat 8 b.length] ∧
        ps.replyBody = b := by
  unfold PortState.replyHead PortState.replyBody
  cases ps.reply with
  | empty => exact ⟨rfl, rfl⟩
  | pending tag epoch => exact ⟨congrArg (· :: _) (replyCode_eq 1 tag), rfl⟩
  | done tag st b epoch => exact ⟨congrArg (· :: _) (replyCode_eq 2 tag), rfl⟩

theorem PortState.replyBody_length_le {ps : PortState}
    (h : ∀ tag st body epoch, ps.reply = .done tag st body epoch → body.length ≤ 57) : ps.replyBody.length ≤ 57 := by
  unfold PortState.replyBody
  cases hreply : ps.reply with
  | empty | pending tag epoch => exact Nat.zero_le 57
  | done tag st body epoch => exact h tag st body epoch hreply

/-! ### Select (R128, R129) -/

theorem exec_transactionStart_of_none {s : State} {p : Port} (h : (s.port p).transaction = .none) (t : Nat) :
    exec (.transactionStart t p) s = .next ((s.advanceTo t).setPort p
      { s.port p with transaction := .inProgress (s.port p).replyFrame, received := 0 }) := by
  simp only [exec, execTransactionStart, State.advanceTo_port, h]

theorem exec_transactionStart_of_asserted {s : State} {p : Port} (h : (s.port p).transaction ≠ .none) (t : Nat) :
    exec (.transactionStart t p) s = .next (s.advanceTo t) := by
  simp only [exec, execTransactionStart, State.advanceTo_port]

/-- A transaction that spans a RESET only ends, whatever its end would have been (R129, R142). -/
theorem exec_transactionEnd_of_ignored {i : Instr} {t : Nat} {p : Port} (hend : i.transactionEnd = some (t, p))
    {s : State} (h : (s.port p).transaction = .ignored) :
    exec i s = .next ((s.advanceTo t).setPort p { s.port p with transaction := .none }) := by
  obtain ⟨bytes, rfl⟩ | rfl | ⟨f, hf, rfl, rfl⟩ := transactionEnd_cases hend
  · exact exec_frameError_of_ignored h t bytes
  · exact congrArg Host.Outcome.next (s.takeFrame_ignored t p id h)
  · obtain ⟨act, hexec⟩ := exec_of_requestFrame hf
    rw [hexec, State.takeFrame_ignored _ _ _ _ h]

/-! ### The data output (R128, R129) -/

/-- While a transaction is in progress the data output is the bit of the captured frame that the clock has come to. -/
theorem PortState.dataOut_of_inProgress {ps : PortState} {captured : List Byte}
    (h : ps.transaction = .inProgress captured) (clocked : Nat) :
    ps.dataOut clocked = if (captured.getD (clocked / 8) 0).getLsbD (7 - clocked % 8) then .high else .low := by
  simp only [PortState.dataOut, h]

theorem PortState.dataOut_bit {ps : PortState} {captured : List Byte} (h : ps.transaction = .inProgress captured)
    {k j : Nat} {b : Byte} (hb : captured[k]? = some b) (hj : j ≤ 7) :
    ps.dataOut (8 * k + j) = if b.getLsbD (7 - j) then .high else .low := by
  have hbyte : (8 * k + j) / 8 = k := by omega
  have hbit : (8 * k + j) % 8 = j := by omega
  rw [PortState.dataOut_of_inProgress h, hbyte, hbit, List.getD_eq_getElem?_getD, hb, Option.getD_some]

/-- Past the captured frame the data output gives zeros. -/
theorem PortState.dataOut_past {ps : PortState} {captured : List Byte} (h : ps.transaction = .inProgress captured)
    {clocked : Nat} (hpast : 8 * captured.length ≤ clocked) : ps.dataOut clocked = .low := by
  rw [PortState.dataOut_of_inProgress h, List.getD_eq_default _ _ (by omega)]
  exact if_neg (ne_true_of_eq_false BitVec.getLsbD_zero)

theorem PortState.dataOut_float {ps : PortState} (h : ∀ captured, ps.transaction ≠ .inProgress captured)
    (clocked : Nat) : ps.dataOut clocked = .float := by
  unfold PortState.dataOut
  cases htransaction : ps.transaction with
  | inProgress captured => exact absurd htransaction (h captured)
  | none | ignored => rfl

/-- Settles O8: the frame captured, a select asserted already, a transaction through a RESET, and the data output. -/
theorem selectCapturesTheReplyFrame : Obligations.SelectCapturesTheReplyFrame := by
  refine ⟨fun t p s hnone hbody => ?_, fun t p s hselected => exec_transactionStart_of_asserted hselected t,
    fun i t p s hend hignored => exec_transactionEnd_of_ignored hend hignored, fun ps => ⟨fun captured h hlength => ?_,
      PortState.dataOut_float⟩⟩
  · have hlength := PortState.replyBody_length_le hbody
    refine ⟨(s.port p).replyHead, (s.port p).replyBody, (s.port p).replyHead_body, ?_, ?_⟩
    · rw [← PortState.replyFrame_eq]
      exact PortState.replyFrame_length (hlength.trans (by decide))
    · rw [← PortState.replyFrame_eq]
      exact exec_transactionStart_of_none hnone t
  · exact ⟨fun k j b => PortState.dataOut_bit h, fun clocked hpast => PortState.dataOut_past h (by omega)⟩

end Sys2Proof.Machine
end

section
/-! The event queue as records arrive and are read, the causes that latch, and the four requests of chapter 8 once
admitted. -/

namespace Sys2Proof.Machine

/-! ### Arrival at a queue (R149) -/

theorem newestIsLost_of_getLast? {q : List EventRecord} {last : EventRecord} (h : q.getLast? = some last) :
    newestIsLost q = last.isLost := by
  simp only [newestIsLost, h]

theorem bumpNewest_of_lost {q : List EventRecord} {last : EventRecord} {count : Nat} {first : EventKind}
    (h : q.getLast? = some last) (hlost : last.record.payload = .lost count first) :
    bumpNewest q =
      q.dropLast ++
        [{ last with record := { last.record with payload := .lost (min 255 (count + 1)) first } }] := by
  simp only [bumpNewest, h, EventRecord.bumpLost, hlost]

/-- With at most 30 records there is room. -/
theorem storeRecord_of_room {q : List EventRecord} (h : q.length ≤ 30) (seq : Byte) (r : Record) :
    storeRecord q seq r = (q ++ [{ seq := seq, record := r }], seq + 1) := by
  rw [storeRecord, if_pos h]

/-- The last place of a queue goes to a LOST record. -/
theorem storeRecord_of_lastPlace {q : List EventRecord} (h : q.length = 31) (hnewest : newestIsLost q = false)
    (seq : Byte) (r : Record) : storeRecord q seq r = (q ++ [{ seq := seq, record := lostFor r }], seq + 1) := by
  rw [storeRecord, if_neg (by omega), if_pos ⟨h, hnewest⟩]

/-- With no room, a newest LOST record counts the arrival. -/
theorem storeRecord_of_newestLost {q : List EventRecord} (h : 30 < q.length) (hnewest : newestIsLost q = true)
    (seq : Byte) (r : Record) : storeRecord q seq r = (bumpNewest q, seq) := by
  rw [storeRecord, if_neg (by omega), if_neg fun hfree => Bool.false_ne_true (hfree.2.symm.trans hnewest)]

/-- Settles O53, by the depth and the newest record. -/
theorem arrivalIsStoredOrCountedAsLost : Obligations.ArrivalIsStoredOrCountedAsLost := by
  intro q seq r
  refine ⟨fun hroom => storeRecord_of_room hroom seq r, fun last hlast hlength hkind => ?_,
    fun last count first hlast hlength hlost => ?_, fun hdepth hfull => storeRecord_keeps hdepth hfull seq r⟩
  · have hnewest : newestIsLost q = false := (newestIsLost_of_getLast? hlast).trans (decide_eq_false hkind)
    exact storeRecord_of_lastPlace hlength hnewest seq r
  · have hnewest : newestIsLost q = true :=
      (newestIsLost_of_getLast? hlast).trans (decide_eq_true (congrArg Payload.kind hlost))
    rw [storeRecord_of_newestLost (by omega) hnewest, bumpNewest_of_lost hlast hlost]

/-! ### Causes and the ATTN output (R153 to R155) -/

/-- The causes of the depth conditions leave the other three latches. -/
theorem CauseSet.union_depthCauses (c : CauseSet) (watermark nonempty : Bool) :
    c.union { CauseSet.empty with watermark := watermark, nonempty := nonempty } =
      { c with watermark := c.watermark || watermark, nonempty := c.nonempty || nonempty } := by
  simp [CauseSet.union, CauseSet.empty]

/-- The causes of a record leave the other three latches. -/
theorem CauseSet.union_causes (c : CauseSet) (x : Payload) :
    c.union x.causes =
      { c with
        tracker := c.tracker || decide (x.kind = .state)
        line := c.line || decide (x.kind = .lineGranted) } := by
  simp [CauseSet.union, CauseSet.empty, Payload.causes]

theorem CauseSet.meets_eq_true (x y : CauseSet) :
    x.meets y = true ↔
      (x.watermark = true ∧ y.watermark = true) ∨ (x.nonempty = true ∧ y.nonempty = true) ∨
        (x.reply = true ∧ y.reply = true) ∨ (x.tracker = true ∧ y.tracker = true) ∨
        (x.line = true ∧ y.line = true) := by
  simp only [CauseSet.meets, Bool.or_eq_true, Bool.and_eq_true, or_assoc]

theorem Attention.pin_eq_low (a : Attention) : a.pin = .low ↔ a.asserted = true := by
  unfold Attention.pin
  cases a.asserted <;> decide

/-- The depth conditions and their latches at a new depth (R153). -/
theorem Attention.atDepth_eq (a : Attention) (depth : Nat) :
    a.atDepth depth =
      { a with
        watermarkHolds := decide (a.watermark ≤ depth)
        nonemptyHolds := decide (1 ≤ depth)
        latched :=
          { a.latched with
            watermark :=
              a.latched.watermark || edgeMade a.watermarkEdge a.watermarkHolds (decide (a.watermark ≤ depth))
            nonempty := a.latched.nonempty || edgeMade a.nonemptyEdge a.nonemptyHolds (decide (1 ≤ depth)) } } := by
  rw [← CauseSet.union_depthCauses]
  rfl

/-- Settles O54: the depth conditions, the causes of a record, and the five pairs of a latch and its enable. -/
theorem causesLatchAndDriveTheAttentionLine : Obligations.CausesLatchAndDriveTheAttentionLine := by
  refine ⟨Attention.atDepth_eq, fun ps r => ?_, fun a => a.pin_eq_low.trans (CauseSet.meets_eq_true _ _)⟩
  simp only [PortState.arrive, Attention.latch, CauseSet.union_causes]

/-! ### Requests to the queue and the attention logic -/

/-- At least one record asked for: the depth changes unless the queue is empty (R151, R153). -/
theorem PortState.removeOldest_eq (ps : PortState) {n : Nat} (hn : 1 ≤ n) :
    ps.removeOldest n =
      { ps with
        queue := ps.queue.drop n
        attention := if ps.queue = [] then ps.attention else ps.attention.atDepth (ps.queue.length - n) } := by
  have hsame : ps.queue.length - n = ps.queue.length ↔ ps.queue = [] := by
    rw [← List.length_eq_zero_iff]
    omega
  simp only [PortState.removeOldest, List.length_drop, hsame]

theorem PortState.eventsBody_eq (ps : PortState) (n : Nat) :
    ps.eventsBody n =
      [BitVec.ofNat 8 (min n ps.queue.length)] ++ (ps.queue.take n).flatMap EventRecord.bytes ++
        [BitVec.ofNat 8 (ps.queue.length - n)] := by
  simp only [PortState.eventsBody, List.length_take, List.length_drop, List.cons_append, List.nil_append]

/-- A request that changes its own port and answers. -/
theorem State.onlyFrame_setPort_reply (s : State) (t : Nat) (p : Port) (x : PortState) (tag : Tag) (st : Status)
    (body : List Byte) :
    ((s.onlyFrame t p).setPort p x).reply p tag st body = (s.advanceTo t).setPort p (x.replied tag st body) := by
  rw [State.reply_eq, State.setPort_port_self, State.setPort_setPort, State.onlyFrame_setPort]

section
variable {s : State} {p : Port} (h : s.Admits p) (t : Nat) (tag : Tag)
include h

/-- READ_EVENTS removes records and answers with them (R151). -/
theorem exec_readEvents_of_admits {n : Nat} (hrange : 1 ≤ n ∧ n ≤ 4) :
    exec (.readEvents t p tag 0 [BitVec.ofNat 8 n]) s = .next ((s.advanceTo t).setPort p
      ((((s.port p).afterFrame (max s.now t)).removeOldest n).replied tag .ok ((s.port p).eventsBody n))) := by
  simp only [exec, execReadEvents, (parseCount_eq_some _ _).2 ⟨hrange, rfl⟩]
  rw [State.request_of_admits h t tag {} n _ nofun rfl, State.onlyFrame_setPort_reply, State.onlyFrame_port_self]
  rfl

/-- SET_EVENT_MASK replaces the mask and the interval (R147). -/
theorem exec_setEventMask_of_admits (m : EventMask) {k : Nat} (hk : k ≤ 255) :
    exec (.setEventMask t p tag 0 [m.byte, BitVec.ofNat 8 k]) s = .next ((s.advanceTo t).setPort p
      (PortState.answered { s.port p with mask := m, interval := k } (max s.now t) tag .ok
        [m.byte, BitVec.ofNat 8 k])) := by
  simp only [exec, execSetEventMask, (parseEventMask_eq_some _ _ _).2 ⟨hk, rfl⟩]
  rw [State.request_of_admits h t tag {} (m, k) _ nofun rfl, State.onlyFrame_setPort_reply, State.onlyFrame_port_self]
  rfl

/-- SET_ATTENTION replaces its settings (R156). -/
theorem exec_setAttention_of_admits {a : AttentionArgs} (hrange : 1 ≤ a.watermark ∧ a.watermark ≤ 31) :
    exec (.setAttention t p tag 0 a.bytes) s = .next ((s.advanceTo t).setPort p
      (((s.port p).setAttention a).answered (max s.now t) tag .ok a.bytes)) := by
  simp only [exec, execSetAttention, (parseAttention_eq_some _ _).2 ⟨hrange, rfl⟩]
  rw [State.request_of_admits h t tag {} a _ nofun rfl, State.onlyFrame_setPort_reply, State.onlyFrame_port_self]
  rfl

/-- ACK_ATTENTION clears latches of the port that its answer leaves (R157). -/
theorem exec_ackAttention_of_admits (c : CauseSet) :
    exec (.ackAttention t p tag 0 [c.byte]) s = .next ((s.advanceTo t).setPort p
      (((s.port p).answered (max s.now t) tag .ok
        [((s.port p).attention.latched.withReply.without c).byte]).acknowledge c)) := by
  simp only [exec, execAckAttention, (parseAck_eq_some _ _).2 rfl]
  rw [State.request_of_admits h t tag {} c _ nofun rfl]
  simp only [State.onlyFrame_port_self, PortState.afterFrame_attention, CauseSet.union_reply, State.onlyFrame_reply,
    State.answers, State.setPort_port_self, State.setPort_setPort]

end

/-- Settles O27: the frame, the removal and the answer change one port. -/
theorem readEventsRemovesTheOldest : Obligations.ReadEventsRemovesTheOldest := by
  intro t p tag n s h hmin hmax
  rw [exec_readEvents_of_admits h t tag ⟨hmin, hmax⟩, PortState.removeOldest_eq _ hmin, PortState.eventsBody_eq]
  rfl

/-- Settles O28: the bytes of the settings are read back, and the settings replaced. -/
theorem settingsAreReplacedAtOnce : Obligations.SettingsAreReplacedAtOnce := fun t _ tag _ h =>
  ⟨fun m _ hk => exec_setEventMask_of_admits h t tag m hk,
    fun _ hmin hmax => exec_setAttention_of_admits h t tag ⟨hmin, hmax⟩⟩

/-- Settles O29: the latches that remain are those the answer leaves, without the set. -/
theorem ackClearsAfterItsOwnReplyLatches : Obligations.AckClearsAfterItsOwnReplyLatches :=
  fun t _ tag c _ h => exec_ackAttention_of_admits h t tag c

end Sys2Proof.Machine
end

section
/-! The model's own fields along every operation and every command: the queue stays, and neither the tick nor the count
of draws goes back. -/

namespace Sys2Proof.Machine

/-- `u` can follow `s` with no time taken back: the queue is the same, and neither the tick nor the count of draws is
smaller. -/
structure State.Onward (s u : State) : Prop where
  pending : u.pending = s.pending
  now : s.now ≤ u.now
  draws : s.draws ≤ u.draws

theorem State.Onward.refl (s : State) : s.Onward s := ⟨rfl, le_rfl, le_rfl⟩

theorem State.Onward.trans {s u v : State} (h : s.Onward u) (h' : u.Onward v) : s.Onward v :=
  ⟨h'.pending.trans h.pending, h.now.trans h'.now, h.draws.trans h'.draws⟩

theorem State.Onward.ite {c : Prop} [Decidable c] {s u v : State} (h : s.Onward u) (h' : s.Onward v) :
    s.Onward (if c then u else v) := by
  split <;> assumption

theorem State.Onward.foldl {α : Type} (f : State → α → State) (h : ∀ (s : State) (a : α), s.Onward (f s a)) :
    ∀ (l : List α) (s : State), s.Onward (l.foldl f s)
  | [], s => .refl s
  | a :: l, s => (h s a).trans (foldl f h l (f s a))

/-! ### One operation on the later state -/

section
variable {s u : State} (h : s.Onward u)
include h

theorem State.Onward.then_setPort {p x} : s.Onward (u.setPort p x) := ⟨h.pending, h.now, h.draws⟩

theorem State.Onward.then_setLine {l x} : s.Onward (u.setLine l x) := ⟨h.pending, h.now, h.draws⟩

theorem State.Onward.then_setLines {x} : s.Onward (u.setLines x) := ⟨h.pending, h.now, h.draws⟩

theorem State.Onward.then_setSlots {x} : s.Onward (u.setSlots x) := ⟨h.pending, h.now, h.draws⟩

theorem State.Onward.then_setSlot {i x} : s.Onward (u.setSlot i x) := ⟨h.pending, h.now, h.draws⟩

theorem State.Onward.then_setTracker {x} : s.Onward (u.setTracker x) := ⟨h.pending, h.now, h.draws⟩

theorem State.Onward.then_setWalkPos {x} : s.Onward (u.setWalkPos x) := ⟨h.pending, h.now, h.draws⟩

theorem State.Onward.then_setHold {x} : s.Onward (u.setHold x) := ⟨h.pending, h.now, h.draws⟩

theorem State.Onward.then_setGrant {x} : s.Onward (u.setGrant x) := ⟨h.pending, h.now, h.draws⟩

theorem State.Onward.then_setNextSeq {x} : s.Onward (u.setNextSeq x) := ⟨h.pending, h.now, h.draws⟩

theorem State.Onward.then_setEngine {x} : s.Onward (u.setEngine x) := ⟨h.pending, h.now, h.draws⟩

theorem State.Onward.then_setLastFired {x} : s.Onward (u.setLastFired x) := ⟨h.pending, h.now, h.draws⟩

theorem State.Onward.then_setChannel {ch c} : s.Onward (u.setChannel ch c) := by
  cases ch <;> exact ⟨h.pending, h.now, h.draws⟩

theorem State.Onward.then_post {dest r} : s.Onward (u.post dest r) := ⟨h.pending, h.now, h.draws⟩

theorem State.Onward.then_postState {phase cycle old new cause} :
    s.Onward (u.postState phase cycle old new cause) := h.then_post

theorem State.Onward.then_reply {p tag st body} : s.Onward (u.reply p tag st body) := h.then_setPort

theorem State.Onward.then_beginLong {p r tag} : s.Onward (u.beginLong p r tag) := h.then_setPort

theorem State.Onward.then_finishLong {p r st body} : s.Onward (u.finishLong p r st body) := by
  rw [State.finishLong_eq]
  exact h.then_setPort

theorem State.Onward.then_trackingEnded : s.Onward u.trackingEnded := h.then_setWalkPos.then_setSlots.then_setLines

/-- A choice of the engine takes one draw. -/
theorem State.Onward.then_chooseJob : s.Onward u.chooseJob := ⟨h.pending, h.now, h.draws.trans (Nat.le_succ _)⟩

theorem State.Onward.then_postPortJob {p j} : s.Onward (u.postPortJob p j) :=
  h.then_setEngine.then_chooseJob

theorem State.Onward.then_postInternalJob {j} : s.Onward (u.postInternalJob j) :=
  h.then_setEngine.then_chooseJob

/-- Records posted in any order take a draw each. -/
theorem State.Onward.then_postUnordered {p rs} : s.Onward (u.postUnordered p rs) := by
  rw [State.postUnordered_eq]
  exact ⟨h.pending, h.now, h.draws.trans (Nat.le_add_right _ _)⟩

/-! ### The walker and the boundaries -/

theorem State.Onward.then_reach {cycle last i} : s.Onward (u.reach cycle last i) :=
  State.reach_parts (P := s.Onward) u cycle last i h fun e _ _ _ =>
    State.fireEntry_parts (P := s.Onward) u i e cycle last h.then_setLastFired.then_setLine
      (fun _ hv => hv.then_post) fun _ _ hv => hv.then_setSlot.then_postInternalJob

theorem State.Onward.then_advanceWalk {cycle hi} : s.Onward (u.advanceWalk cycle hi) :=
  State.advanceWalk_ind (P := s.Onward) u cycle hi h
    (fun v _ ph _ _ _ hv => State.takePhase_ind (P := s.Onward) v cycle hi ph hv.then_setLines
      fun _ _ _ _ _ _ hw => hw.then_reach)
    fun _ hv => hv.then_setWalkPos

theorem State.Onward.then_takeBoundary {period cycle ph slip} : s.Onward (u.takeBoundary period cycle ph slip) := by
  rw [State.takeBoundary_eq_foldl]
  have hentered : s.Onward (u.enterCycle period) := ⟨h.pending, h.now, h.draws⟩
  exact hentered.trans (.foldl _ (fun v _ => (State.Onward.refl v).then_postUnordered) _ _)

/-! ### Marks and the tracker's state -/

theorem State.Onward.then_postChange {old new cause} : s.Onward (u.postChange old new cause) :=
  .ite h h.then_postState

theorem State.Onward.then_loseTracking {cause} : s.Onward (u.loseTracking cause) :=
  h.then_setTracker.then_trackingEnded.then_postState

theorem State.Onward.then_stepPosition {new cause pos slip} : s.Onward (u.stepPosition new cause pos slip) := by
  cases slip with
  | none => exact h.then_setTracker.then_postChange.then_advanceWalk
  | some k => exact h.then_setTracker.then_postChange.then_post.then_advanceWalk

theorem State.Onward.then_stepBoundary {new cause missed report align} :
    s.Onward (u.stepBoundary new cause missed report align) := by
  cases align with
  | none =>
    exact .then_advanceWalk (.then_takeBoundary (.then_advanceWalk
      (.ite h.then_setTracker.then_postChange.then_post h.then_setTracker.then_postChange)))
  | some k =>
    exact .then_advanceWalk (.then_takeBoundary (.then_setLines
      (.ite h.then_setTracker.then_postChange.then_post h.then_setTracker.then_postChange)))

theorem State.Onward.then_stepMark {new cause} : s.Onward (u.stepMark new cause) := by
  unfold State.stepMark
  split
  · exact h.then_stepPosition
  · exact h.then_stepPosition
  · exact h.then_stepBoundary
  · exact h.then_stepBoundary
  · exact h.then_setTracker.then_post.then_loseTracking

theorem State.Onward.then_acquireMark {n} : s.Onward (u.acquireMark n) :=
  .ite h.then_setTracker.then_setTracker.then_setWalkPos.then_postState h.then_setTracker

theorem State.Onward.then_judgeMark {n} : s.Onward (u.judgeMark n) :=
  .ite h.then_post h.then_setTracker.then_stepMark

theorem State.Onward.then_takeMark {n} : s.Onward (u.takeMark n) := by
  unfold State.takeMark
  split
  · exact h
  · exact h.then_acquireMark
  · exact h.then_judgeMark
  · exact h.then_judgeMark
  · exact .ite h.then_setTracker.then_postState.then_acquireMark h

theorem State.Onward.then_takeIndex : s.Onward u.takeIndex := by
  unfold State.takeIndex
  split
  · exact h
  · exact h
  · exact h.then_setTracker

theorem State.Onward.then_recognise {ch} : s.Onward (u.recognise ch) := by
  unfold State.recognise
  split
  · cases ch with
    | mark => exact h.then_setChannel.then_takeMark
    | index => exact h.then_setChannel.then_takeIndex
  · exact h.then_setChannel

theorem State.Onward.then_substituteMark : s.Onward u.substituteMark :=
  .ite h.then_setTracker.then_stepMark h.then_setTracker.then_stepMark.then_post

theorem State.Onward.then_stopTracker : s.Onward u.stopTracker :=
  .then_postState (.ite h.then_setTracker.then_trackingEnded h.then_setTracker)

/-! ### Teardowns and completions -/

theorem State.Onward.then_beginTeardown {p} : s.Onward (u.beginTeardown p) := by
  rw [State.beginTeardown_eq]
  exact ⟨h.pending, h.now, h.draws.trans (Nat.le_succ _)⟩

theorem State.Onward.then_handOver {l} : s.Onward (u.handOver l) := by
  rw [State.handOver_eq]
  exact ⟨h.pending, h.now, h.draws⟩

theorem State.Onward.then_endPulseOf {id e} : s.Onward (u.endPulseOf id e) := .ite h.then_setLine h

theorem State.Onward.then_insert {p f} : s.Onward (u.insert p f) := by
  unfold State.insert
  split
  · exact h.then_finishLong
  · split
    · exact h.then_finishLong
    · exact h.then_setSlot.then_setNextSeq.then_setLastFired.then_finishLong

theorem State.Onward.then_deleteEntry {p id} : s.Onward (u.deleteEntry p id) := by
  unfold State.deleteEntry
  split
  · exact h.then_finishLong
  · exact .ite h.then_setSlot.then_endPulseOf.then_finishLong h.then_finishLong

theorem State.Onward.then_clearLine {p l} : s.Onward (u.clearLine p l) :=
  .then_finishLong (.ite h.then_setSlots.then_setLine h.then_setSlots)

theorem State.Onward.then_releaseLine {p l} : s.Onward (u.releaseLine p l) :=
  h.then_setSlots.then_handOver.then_finishLong

theorem State.Onward.then_finishTeardown {p} : s.Onward (u.finishTeardown p) := by
  have hlines : s.Onward ((u.ownedLines p).foldl State.handOver u) :=
    h.trans (.foldl _ (fun v _ => (State.Onward.refl v).then_handOver) _ _)
  unfold State.finishTeardown
  split
  · exact hlines.then_setPort.then_post.then_setPort
  · exact h

theorem State.Onward.then_removeSpent {id seq} : s.Onward (u.removeSpent id seq) := by
  unfold State.removeSpent
  split
  · exact .ite h.then_setSlot h
  · exact h

/-- A completion frees the engine, has its effect, and lets the engine choose again (R56, R57). -/
theorem State.Onward.then_completeJob {effect : State → State}
    (heffect : ∀ v : State, s.Onward v → s.Onward (effect v)) : s.Onward (u.completeJob effect) :=
  (heffect _ h.then_setEngine).then_chooseJob

end

/-! ### Frames and requests -/

theorem State.Onward.advanceTo (s : State) (t : Nat) : s.Onward (s.advanceTo t) := ⟨rfl, le_max_left _ _, le_rfl⟩

theorem State.Onward.onlyFrame (s : State) (t : Nat) (p : Port) : s.Onward (s.onlyFrame t p) :=
  (State.Onward.advanceTo s t).then_setPort

/-- A frame goes onward if what it asks of the part does. -/
theorem State.Onward.takeFrame (s : State) (t : Nat) (p : Port) (act : State → State)
    (hact : ∀ v, s.Onward v → s.Onward (act v)) : s.Onward (s.takeFrame t p act) :=
  State.takeFrame_ind s t p act (State.Onward.advanceTo s t).then_setPort (.onlyFrame s t p) fun _ =>
    hact _ (.onlyFrame s t p)

/-- A request goes onward if what it does once admitted does. -/
theorem State.Onward.request {α : Type} (s : State) (t : Nat) (p : Port) (tag rsv : Tag) (needs : Needs)
    (args : Option α) (act : α → State → State) (hact : ∀ (a : α) (v : State), s.Onward v → s.Onward (act a v)) :
    s.Onward (s.takeFrame t p fun v => v.admission p tag rsv needs args act) :=
  .takeFrame s t p _ fun v hv =>
    State.admit_ind v p tag rsv needs args act (fun _ => hv.then_reply) fun a _ _ _ _ => hact a v hv

/-! ### Every command -/

/-- The meaning of every command is a next state: none faults and none is refused. -/
theorem exec_completes (i : Instr) (s : State) : ∃ u, exec i s = .next u := by
  cases i <;> exact ⟨_, rfl⟩

/-- Every command keeps the queue and takes back neither time nor a draw. -/
theorem exec_onward (i : Instr) (s u : State) (h : exec i s = .next u) : s.Onward u := by
  have hnow : ∀ t, s.Onward (s.advanceTo t) := .advanceTo s
  cases i with
  | reset t mark index hold =>
    cases h
    exact ⟨rfl, le_max_left _ _, le_rfl⟩
  | transactionStart t p =>
    cases h
    split
    · exact (hnow t).then_setPort
    · exact hnow t
  | frameError t p bytes =>
    cases h
    split
    · exact (hnow t).then_setPort
    · exact (hnow t).then_setPort.then_reply
    · exact (hnow t).then_setPort
  | nop t p =>
    cases h
    exact .takeFrame s t p id fun _ hv => hv
  | unknownRequestCode t p tag rsv code body =>
    cases h
    exact .takeFrame s t p _ fun _ hv => hv.then_reply
  | openSession t p tag rsv body =>
    cases h
    exact .request s t p _ _ _ _ _ fun _ _ hv => .ite hv.then_setPort.then_post.then_reply hv.then_reply
  | closeSession t p tag rsv body =>
    cases h
    exact .request s t p _ _ _ _ _ fun _ _ hv => hv.then_beginLong.then_setPort.then_beginTeardown
  | requestGrant t p tag rsv body =>
    cases h
    refine .request s t p _ _ _ _ _ fun _ v hv => ?_
    split
    · exact hv.then_setGrant.then_reply
    · exact hv.then_reply
  | releaseGrant t p tag rsv body =>
    cases h
    exact .request s t p _ _ _ _ _ fun _ _ hv => .ite hv.then_setGrant.then_reply hv.then_reply
  | setTracker t p tag rsv body =>
    cases h
    exact .request s t p _ _ _ _ _ fun _ _ hv =>
      ((hv.then_setTracker.then_setChannel (ch := .mark)).then_setChannel (ch := .index)).then_reply
  | startTracker t p tag rsv body =>
    cases h
    exact .request s t p _ _ _ _ _ fun _ _ hv => hv.then_setTracker.then_postState.then_reply
  | stopTracker t p tag rsv body =>
    cases h
    exact .request s t p _ _ _ _ _ fun _ _ hv => .then_reply (.ite hv hv.then_stopTracker)
  | claimLine t p tag rsv body =>
    cases h
    exact .request s t p _ _ _ _ _ fun _ _ hv => hv.then_setLine.then_reply
  | releaseLine t p tag rsv body =>
    cases h
    exact .request s t p _ _ _ _ _ fun _ _ hv =>
      .ite hv.then_setLine.then_beginLong.then_postPortJob (.ite hv.then_setLine.then_reply hv.then_reply)
  | setLineMode t p tag rsv body =>
    cases h
    exact .request s t p _ _ _ _ _ fun _ _ hv => .ite hv.then_setLine.then_reply hv.then_reply
  | insertEntry t p tag rsv body | clearLineEntries t p tag rsv body =>
    cases h
    exact .request s t p _ _ _ _ _ fun _ _ hv => .ite hv.then_beginLong.then_postPortJob hv.then_reply
  | deleteEntry t p tag rsv body =>
    cases h
    exact .request s t p _ _ _ _ _ fun _ _ hv => hv.then_beginLong.then_postPortJob
  | readEntry t p tag rsv body =>
    cases h
    refine .request s t p _ _ _ _ _ fun _ v hv => ?_
    split
    · exact hv.then_reply
    · exact .ite hv.then_reply hv.then_reply
  | readSession t p tag rsv body | readTracker t p tag rsv body | readHistory t p tag rsv body
  | readLines t p tag rsv body | listEntries t p tag rsv body =>
    cases h
    exact .request s t p _ _ _ _ _ fun _ _ hv => hv.then_reply
  | setQuota t p tag rsv body | readEvents t p tag rsv body | setEventMask t p tag rsv body
  | setAttention t p tag rsv body =>
    cases h
    exact .request s t p _ _ _ _ _ fun _ _ hv => hv.then_setPort.then_reply
  | ackAttention t p tag rsv body =>
    cases h
    exact .request s t p _ _ _ _ _ fun _ _ hv => hv.then_reply.then_setPort
  | mark t =>
    cases h
    split
    · exact (hnow t).then_setChannel.then_takeMark
    · exact hnow t
  | indexEdge t =>
    cases h
    split
    · exact (hnow t).then_setChannel.then_takeIndex
    · exact hnow t
  | unselectedTransition t ch =>
    cases h
    split
    · exact .ite (hnow t) (hnow t).then_setChannel
    · exact hnow t
  | conditionerHoldBegins t ch sample =>
    cases h
    exact .ite (hnow t).then_recognise (hnow t).then_setChannel
  | conditionerHoldAbandoned t ch =>
    cases h
    exact (hnow t).then_setChannel
  | noMarkLimit t =>
    cases h
    exact .ite (hnow t).then_setTracker (hnow t)
  | lateTimeout t =>
    cases h
    exact .ite (.ite (hnow t).then_substituteMark (hnow t).then_loseTracking) (hnow t)
  | phaseRise t =>
    cases h
    exact .ite (hnow t).then_setTracker.then_advanceWalk (hnow t)
  | pulseTimerExpiry t l =>
    cases h
    exact .ite (hnow t).then_setLine (hnow t)
  | holdAssertion t =>
    cases h
    split
    · exact (hnow t).then_setHold.then_setLines.then_post
    · exact (hnow t).then_setHold
  | holdDeassertion t =>
    cases h
    split
    · exact (hnow t).then_setHold.then_post
    · exact (hnow t).then_setHold
  | silenceExpiry t p =>
    cases h
    exact .ite (hnow t).then_setPort.then_beginTeardown (hnow t)
  | insertionCompletes t =>
    cases h
    split
    · exact (hnow t).then_completeJob fun _ hv => hv.then_insert
    · exact hnow t
  | entryDeletionCompletes t =>
    cases h
    split
    · exact (hnow t).then_completeJob fun _ hv => hv.then_deleteEntry
    · exact hnow t
  | lineClearCompletes t =>
    cases h
    split
    · exact (hnow t).then_completeJob fun _ hv => hv.then_clearLine
    · exact hnow t
  | releaseDeletionCompletes t =>
    cases h
    split
    · exact (hnow t).then_completeJob fun _ hv => hv.then_releaseLine
    · exact hnow t
  | teardownSweepCompletes t =>
    cases h
    split
    · exact (hnow t).then_completeJob fun _ hv => hv.then_setSlots.then_finishTeardown
    · exact hnow t
  | spentRemovalCompletes t =>
    cases h
    split
    · exact (hnow t).then_completeJob fun _ hv => hv.then_removeSpent
    · exact hnow t

/-- Settles O3: every command answers a next state, and that state is onward of the one it is run on. -/
theorem everyCommandCompletesAndKeepsTheQueue : Obligations.EveryCommandCompletesAndKeepsTheQueue := by
  intro c s
  obtain ⟨u, hnext⟩ := exec_completes c s
  obtain ⟨hpending, hnow, hdraws⟩ := exec_onward c s u hnext
  exact ⟨u, hnext, hpending, hnow, hdraws⟩

/-! ### A step -/

theorem step_of_front {s : State} {c : Instr} {rest : List Instr} (h : s.pending = c :: rest) :
    step s = exec c (s.setPending rest) := by
  rw [step, h]

/-- Settles O1. -/
theorem stepRunsTheFrontCommand : Obligations.StepRunsTheFrontCommand := fun _ _ _ => step_of_front rfl

end Sys2Proof.Machine
end
